-- ==== Sys2Proof/Word.lean ====
section
/-! DEFINITION. Bytes, ring words and the constructor of fixed-length lists that the whole model uses. -/

namespace Sys2Proof

/-- One byte of a frame. -/
abbrev Byte := BitVec 8

/-- A mailbox data word (Formats: "A data word is 32 bits"). -/
abbrev Word := BitVec 32

/-- A fixed-length list given by its entries. -/
def Vec.ofFn {α : Type} {n : Nat} (f : Fin n → α) : Vector α n := ⟨⟨List.ofFn f⟩, by simp⟩

/-- The eight data words of a request or a response. -/
abbrev Words := Vector Word 8

/-- The seven data words of a table entry's image (Formats, Entry images). -/
abbrev Image := Vector Word 7

end Sys2Proof
end

