-- ==== Sys2Proof/Types.lean ====
section
/-! DEFINITION. The named values of the manual and the contents of the events that its blocks exchange.
Every type is plain data. -/

namespace Sys2Proof

/-- Hamlet feeder 1 to 12, held as 0 to 11 (00_scope, Numbering). -/
abbrev Feeder := Fin 12

/-- Ballast element 1 to 8, held as 0 to 7 (00_scope, Numbering). -/
abbrev Element := Fin 8

/-- Plant modes (R59). -/
inductive PlantMode where
  | standby | starting | run | stopping | tripped | commission
  deriving DecidableEq, Repr

/-- Ring states (R12, R13). -/
inductive RingState where
  | down | up
  deriving DecidableEq, Repr

/-- Slot quality codes (R15). -/
inductive Quality where
  | empty | good | held | fault
  deriving DecidableEq, Repr

/-- Sample kinds in the order of R17. -/
inductive SampleKind where
  | cyclePeriod | lineVoltage | genPower | feederCurrent | feederPower | feederBreaker
  | ballastStatus | sawCurrent | sawContactor | feedSetpoint | sawButton | forebayLevel | gatePosition
  deriving DecidableEq, Repr

/-- Command kinds in the order of the command holding table (The Plant Ring, "The command holding"). -/
inductive CommandKind where
  | ballastStep | ballastTrim | gateSetpoint | feederBreakerCmd | sawContactorCmd
  | feedCommand | tripRepeat | plantStatus
  deriving DecidableEq, Repr

/-- States of a quantity record and of the shaft record (R21, R31). -/
inductive QState where
  | never | fresh | held | stale
  deriving DecidableEq, Repr

/-- Regulator states, in the order of R37. -/
inductive RegState where
  | tracking | hold | forcedFull | frozen
  deriving DecidableEq, Repr

/-- Frequency sources (R41). -/
inductive Source where
  | alternator | shaft | none
  deriving DecidableEq, Repr

/-- Trip causes (R59). -/
inductive TripCause where
  | manual | overspeed | overfrequency | speedUnknown | protectionDamaged
  deriving DecidableEq, Repr

/-- Source of the share band in force (R72). -/
inductive BandSource where
  | table | schedule
  deriving DecidableEq, Repr

/-- Saw states (R106). -/
inductive SawState where
  | stopped | queued | star | delta | run | rundown | fault
  deriving DecidableEq, Repr

/-- Saw reasons (R106). -/
inductive SawReason where
  | none | stop | shed | plant | trip | stall | overcurrent | permissive | ring | noHeadroom | noConfirm
  deriving DecidableEq, Repr

/-- Values of the contactor command (R106). -/
inductive Contactor where
  | off | star | delta | withdrawn
  deriving DecidableEq, Repr

/-- Confirm watch (R113). -/
inductive Confirm where
  | confirmed | pending | failed
  deriving DecidableEq, Repr

/-- Last button value (R110). -/
inductive Button where
  | released | start | stop | unknown
  deriving DecidableEq, Repr

/-- Level of the permissive input (R118). -/
inductive Permissive where
  | opened | closed
  deriving DecidableEq, Repr

/-- SBU's answers to a saw claim request (R88). -/
inductive ClaimAnswer where
  | accepted | duplicate | notRun
  deriving DecidableEq, Repr

/-- Feeder states (R127). -/
inductive FeederState where
  | off | shed | restoring | closing | on | tripped | locked
  deriving DecidableEq, Repr

/-- Feeder reasons (R127). -/
inductive FeederReason where
  | none | desiredOff | plant | table | allowance | deficit | startup | request | reclose | voltage
  | overcurrent | mismatch | breaker
  deriving DecidableEq, Repr

/-- Shed reasons (R94). -/
inductive ShedReason where
  | deficit | startup | request | reclose | voltage
  deriving DecidableEq, Repr

/-- Current tier of a feeder (R127, R146). -/
inductive Tier where
  | normal | reduced
  deriving DecidableEq, Repr

/-- Tariff bands (R152). -/
inductive TariffBand where
  | low | standard | peak
  deriving DecidableEq, Repr

/-- Day types (R152). -/
inductive DayType where
  | workday | rest
  deriving DecidableEq, Repr

/-- Basis of the band in force (R152). -/
inductive BandBasis where
  | table | calendarInvalid | entryNotGood
  deriving DecidableEq, Repr

/-- Weekdays, Monday first (R159). -/
inductive Weekday where
  | monday | tuesday | wednesday | thursday | friday | saturday | sunday
  deriving DecidableEq, Repr

/-- The eleven tables (R171). -/
inductive TableId where
  | slotMap | ballast | regulator | turbine | protection | feeders | saw | balance | tariff | holidays | schedule
  deriving DecidableEq, Repr

/-- The two physical banks (R170). -/
inductive Bank where
  | bankA | bankB
  deriving DecidableEq, Repr

/-- The two roles of a bank (R170). -/
inductive Role where
  | active | standby
  deriving DecidableEq, Repr

/-- Entry status as a reader sees it (R170). -/
inductive EntryState where
  | empty | good | damaged
  deriving DecidableEq, Repr

/-- Holders of claims (R87). -/
inductive Holder where
  | saw | feeder (n : Feeder)
  deriving DecidableEq, Repr

/-- The 21 attention causes in the order of R189. -/
inductive Cause where
  | restarted | retainLost | trip | overspeedAlarm | shaftSignalLost | ringDown | tableDamaged
  | memoryCorrected | regSaturated | compositionShortfall | freqSourceFallback | shed | deficitUnresolved
  | feederTripped | feederLocked | sawFault | sawNoHeadroom | allowanceReached | meteringGap
  | forebayLow | startFailed
  deriving DecidableEq, Repr

/-- Response status codes (R187; Formats). -/
inductive Status where
  | done | busy | refusedMode | refusedAuth | badArgument | absent | invalid | swapPending | damaged | notLoaded
  deriving DecidableEq, Repr

/-- Who sends FCU a WANT-ON or WANT-OFF (R131): a FEEDER request, which is answered, or the schedule, which is not. -/
inductive Origin where
  | management | schedule
  deriving DecidableEq, Repr

/-- The two clear notices MMB hands FRG (R191). -/
inductive ClearNotice where
  | regSaturated | compositionShortfall
  deriving DecidableEq, Repr

/-- One slot as a frame carries it (R15). -/
structure Slot where
  raw     : BitVec 16
  quality : Quality
  deriving DecidableEq, Repr

/-- A quantity record (R21); its state is derived. -/
structure QRecord where
  value   : Option Nat
  freq    : Option Nat
  age     : Nat
  hold    : Nat
  atLimit : Bool
  deriving DecidableEq, Repr

/-- A quantity record as a sample set holds it (R29): with the kind and instance it answers for, where it is in use. -/
structure SetRecord where
  use : Option (SampleKind × Nat)
  record : QRecord
  deriving DecidableEq, Repr

/-- A timer: stopped, or running until its deadline. -/
inductive Timer where
  | stopped
  | running (deadline : Nat)
  deriving DecidableEq, Repr

/-- The shaft record (R31). -/
structure Shaft where
  started  : Bool
  refTime  : Nat
  tt       : Option Nat
  speed    : Option Nat
  fShaft   : Option Nat
  state    : QState
  overdue  : Timer
  loss     : Timer
  deriving DecidableEq, Repr

/-- A published sample set (R29), with the shaft record as it stands at publication. The alternator frequency is that of
the CYCLE-PERIOD record it holds. -/
structure SampleSet where
  round   : Nat
  period  : Nat
  records : Vector SetRecord 64
  shaft   : Shaft
  deriving DecidableEq, Repr

/-- A round closure as RIF hands it on (R10), with the number and period the sample set takes from the round (R29). -/
inductive Closure where
  | accepted (slots : Vector Slot 64) (ring : RingState) (round period : Nat)
  | rejected
  | lost
  deriving DecidableEq, Repr

/-- A shaft capture as MIU hands it to TSU (R32). -/
structure Capture where
  tt     : Nat
  speed  : Nat
  fShaft : Nat
  deriving DecidableEq, Repr

/-- The ballast update (R47). -/
structure BallastUpdate where
  round       : Nat
  state       : RegState
  source      : Source
  freq        : Option Nat
  fSet        : Nat
  demand      : Nat
  capacity    : Nat
  floorHits   : Nat
  ceilingHits : Nat
  deriving DecidableEq, Repr

/-- The second report (R55). -/
structure SecondReport where
  sum         : Nat
  count       : Nat
  capacity    : Nat
  ceilingHits : Nat
  deriving DecidableEq, Repr

/-- The stamp of a minute event (R161). -/
structure Stamp where
  year    : Nat
  month   : Nat
  day     : Nat
  hour    : Nat
  minute  : Nat
  weekday : Weekday
  valid   : Bool
  deriving DecidableEq, Repr

/-- A returned mailbox request region (R6, R192), with the eligible-from position of that round's header (R185). -/
structure RequestRegion where
  owner        : Byte
  tag          : BitVec 4
  kind         : Byte
  words        : Words
  eligibleFrom : Nat
  deriving DecidableEq, Repr

end Sys2Proof
end

