-- ==== Sys2Proof/Syntax.lean ====
section
/-! DEFINITION. The commands: one constructor per row of spec/opcode_table.json, in the table's order.
A command that takes an event of another block carries what that event carries; a request carries its data words. -/

namespace Sys2Proof

/-- The 105 commands of the part (spec/opcode_table.json; spec/95: each is whole and indivisible). -/
inductive Instr where
  | warmReset
  | powerOnRetentionKept
  | powerOnRetentionLost
  | mainSupplyLoss
  | roundTimerExpiry
  | frameArrival (bytes : List Byte)
  | ringInIdle (bytes : List Byte)
  | miuRoundClosure (c : Closure)
  | shaftRisingEdge (elapsed : Nat)
  | overdueTimerExpiry
  | lossTimerExpiry
  | frgSampleSet (set : SampleSet)
  | frgModeNotice (old new : PlantMode)
  | frgSecondEvent
  | frgMinuteEvent (stamp : Stamp)
  | frgClearNotice (notice : ClearNotice)
  | plantStart
  | plantStop
  | plantTrip
  | plantRestart
  | plantEnterCommission
  | plantLeaveCommission
  | tsuSecondEvent
  | startTimerExpiry
  | dwellTimerExpiry
  | tsuSampleSet (set : SampleSet)
  | tsuCapture (capture : Capture)
  | tsuShaftLossNotice
  | tsuRoundClosure (c : Closure)
  | tsuBallastUpdate (update : BallastUpdate)
  | tsuSecondReport (report : SecondReport)
  | shareBand (low high : Nat)
  | sbuBallastUpdate (update : BallastUpdate)
  | sbuSampleSet (set : SampleSet)
  | sawClaimRequest (amount cls : Nat)
  | waitTimerExpiry (holder : Holder)
  | holdTimerExpiry (holder : Holder)
  | sbuClassNotice (holder : Holder) (cls : Nat)
  | shedPauseTimerExpiry
  | restoreGapTimerExpiry
  | sbuModeNotice (old new : PlantMode)
  | sduSampleSet (set : SampleSet)
  | sawStart
  | sawStop
  | sawClear
  | sawClaimAnswer (answer : ClaimAnswer)
  | sawGranted
  | starTimerExpiry
  | deltaSettleTimerExpiry
  | confirmTimerExpiry
  | stallTimerExpiry
  | rundownTimerExpiry
  | permissiveChange (level : Permissive)
  | sduRingDown
  | shedOrder
  | noHeadroom
  | sduModeNotice (old new : PlantMode)
  | sduBallastUpdate (update : BallastUpdate)
  | sawClass (cls : Nat)
  | sawLockout (on : Bool)
  | fcuSampleSet (set : SampleSet)
  | feederGranted (n : Feeder)
  | breakerWatchTimerExpiry (n : Feeder)
  | settleTimerExpiry (n : Feeder)
  | tripTimerExpiry (n : Feeder)
  | recloseTimerExpiry (n : Feeder)
  | feederWantOn (origin : Origin) (number : Word)
  | feederWantOff (origin : Origin) (number : Word)
  | feederClear (number : Word)
  | tierNotice (n : Feeder) (tier : Tier)
  | fcuRingDown
  | fcuRingUp
  | fcuModeNotice (old new : PlantMode)
  | eauSampleSet (set : SampleSet)
  | eauMeteringReport (energy power : Nat)
  | eauMinuteEvent (stamp : Stamp)
  | dayBoundary
  | accountReset (number : Word)
  | dividerRollover
  | csuMinuteEvent (stamp : Stamp)
  | calendarSet (year month day hour minute second : Word)
  | writeEntry (table : Byte) (index : Byte) (emptyMark : Bool) (image : Image)
  | copyActive (table : Byte)
  | swap (table : Byte) (generation : Byte)
  | readEntry (table : Byte) (role : Role) (index : Byte)
  | readLiveQuantity (index page : Word)
  | readLiveRegulator (page : Word)
  | readLivePlant (page : Word)
  | readLiveClaimListEntry (index page : Word)
  | readLiveShedListEntry (index page : Word)
  | readLiveSaw (page : Word)
  | readLiveFeeder (index page : Word)
  | readLiveAccount (index page : Word)
  | readLiveCalendar (page : Word)
  | readLiveDamagedListEntry (index page : Word)
  | readLiveLastCorrection (page : Word)
  | summaryRead (index page : Word)
  | mmbRequestRegion (region : RequestRegion)
  | ownerAnswer (status : Status) (words : Words)
  | mmbRingDown
  | latchNotice (cause : Cause)
  | attentionRead
  | attentionClear (causes : Word)
  | attentionMask (causes : Word)
  | backupSupplyLoss
  deriving DecidableEq, Repr

end Sys2Proof
end

