-- ==== Sys2Proof/Config.lean ====
section
/-! DEFINITION. The fixed numbers of the part that are not in a table, and the one free value of the model. -/

namespace Sys2Proof

/-- An upset of the table storage: what happens to one stored entry. A single-bit error carries the syndrome that
the code gives for it (R177); the manual does not state the code, so the syndrome is whatever the upset brings. -/
inductive UpsetKind where
  | single (syndrome : Word)
  | double
  deriving DecidableEq, Repr

/-- An upset and the entry it strikes. -/
structure Upset where
  table : TableId
  bank  : Bank
  index : Nat
  kind  : UpsetKind
  deriving DecidableEq, Repr

/-- FREE VALUE (log 12). The upsets that strike the table storage in the microsecond that begins at the given time of
the timebase. The manual says what a read finds (R177, R178) and not when errors arise; nothing constrains this. -/
opaque Config.upsetsAt : Nat → List Upset

/-- Round period while the header entry is not GOOD, in ms (R1). -/
def Config.defaultPeriod : Nat := 10

/-- Good run that brings the ring up (R12). -/
def Config.upRun : Nat := 4

/-- Bad run that brings the ring down (R13). -/
def Config.downRun : Nat := 3

/-- Frame length in bytes (Formats). -/
def Config.frameLength : Nat := 272

/-- Bounce limit of the shaft input, in microseconds (R32). -/
def Config.bounce : Nat := 50

/-- Pulse-loss time with no GOOD PROTECTION read, in ms (R35). -/
def Config.defaultPulseLoss : Nat := 2000

/-- Largest unsigned 32-bit value, where quantities saturate (R32, R151, R195). -/
def Config.max32 : Nat := 4294967295

/-- Dwell time, in ms (R68). -/
def Config.dwell : Nat := 30000

/-- Confirm watch and breaker watch, in ms (R113, R134). -/
def Config.watch : Nat := 1000

/-- One Wh in W·ms (R148). -/
def Config.wh : Nat := 3600000

/-- Microseconds in a second, the divider's length (R160). -/
def Config.second : Nat := 1000000

/-- Rounds without a speed source that trip the plant (R76). -/
def Config.speedUnknownLimit : Nat := 50

/-- Overspeed captures that trip the plant (R74). -/
def Config.overspeedLimit : Nat := 3

/-- Over-frequency sample sets that trip the plant (R75). -/
def Config.overfrequencyLimit : Nat := 5

/-- Length of the floor and ceiling histories (R46). -/
def Config.historyLength : Nat := 8

/-- Entries of the minute summary ring (R57). -/
def Config.summaryLength : Nat := 60

/-- Records of the damaged-entry list (R179). -/
def Config.damagedListLength : Nat := 16

end Sys2Proof
end

