-- ==== Sys2Proof/Machine/State.lean ====
section
/-! DEFINITION. The state of the MJ214: every piece of state the manual names, as plain data, and the state right
after a power-on with retention lost. Times and deadlines are microseconds of the timebase unless a field says ms. -/

namespace Sys2Proof.Machine

/-- A timer that can be frozen (R114, R138) or suspended at a ring-down (R113, R143), keeping its remaining time. -/
inductive HeldTimer where
  | stopped
  | running (deadline : Nat)
  | frozen (remaining : Nat)
  | suspended (remaining : Nat) (wasFrozen : Bool)
  deriving DecidableEq, Repr

/-- The dwell timer (R59, R68). -/
inductive DwellTimer where
  | stopped
  | running (deadline : Nat)
  | expired
  deriving DecidableEq, Repr

/-- The round that has been emitted and has not closed (R2), with the period in force at its emission (R29) and the
eligible-from position its header carried (R185). -/
structure Outstanding where
  round        : Nat
  period       : Nat
  eligibleFrom : Nat
  deriving DecidableEq, Repr

/-- The command holding, 26 entries, each present with a value or absent (R4). -/
structure Holding where
  ballastStep   : Vector (Option Nat) 8
  ballastTrim   : Option Nat
  gateSetpoint  : Option Nat
  feederBreaker : Vector (Option Nat) 12
  sawContactor  : Option Nat
  feed          : Option Nat
  tripRepeat    : Option Nat
  plantStatus   : Option Nat
  deriving DecidableEq, Repr

/-- Ring Interface (R14). -/
structure Rif where
  roundTimer  : Timer
  period      : Nat
  ring        : RingState
  goodRun     : Nat
  badRun      : Nat
  lastRound   : Nat
  outstanding : Option Outstanding
  late        : Option Nat
  emitted     : Option (List Byte)
  holding     : Holding
  deriving DecidableEq, Repr

/-- TURBINE parameters that scale a capture (R32). -/
structure Scale where
  teeth     : Nat
  polePairs : Nat
  beltNum   : Nat
  beltDen   : Nat
  deriving DecidableEq, Repr

/-- Measurement Intake (R21, R31, R32, R35). -/
structure Miu where
  records       : Vector QRecord 64
  shaft         : Shaft
  lastScale     : Option Scale
  lastPulseLoss : Option Nat
  deriving DecidableEq, Repr

/-- A closed entry of the minute summary ring (R57). -/
structure MinuteEntry where
  stamp       : Option Stamp
  fMin        : Option Nat
  fMax        : Option Nat
  average     : Nat
  count       : Nat
  floorHits   : Nat
  ceilingHits : Nat
  deriving DecidableEq, Repr

/-- The minute accumulator (R56). -/
structure MinuteAcc where
  fMin        : Option Nat
  fMax        : Option Nat
  sum         : Nat
  count       : Nat
  floorHits   : Nat
  ceilingHits : Nat
  deriving DecidableEq, Repr

/-- Frequency Regulator (R37). Histories are newest first. `faults` holds, for each element, whether the last sample
set handled reported it faulty (R49). -/
structure Frg where
  state           : RegState
  mode            : PlantMode
  source          : Source
  freq            : Option Nat
  demand          : Nat
  remainder       : Nat
  lastError       : Option Int
  fSet            : Nat
  kp              : Nat
  ki              : Nat
  floorHistory    : Vector Bool 8
  ceilingHistory  : Vector Bool 8
  floorSticky     : Bool
  ceilingSticky   : Bool
  shortfallSticky : Bool
  capacity        : Nat
  trimRating      : Nat
  steps           : Vector Bool 8
  stepSum         : Nat
  trimShare       : Nat
  faults          : Vector Bool 8
  carry           : Nat
  secondSum       : Nat
  secondCount     : Nat
  minute          : MinuteAcc
  summary         : List MinuteEntry
  deriving DecidableEq, Repr

/-- A date and time, as the trip stamp holds it (R59). -/
structure DateTime where
  year   : Nat
  month  : Nat
  day    : Nat
  hour   : Nat
  minute : Nat
  second : Nat
  deriving DecidableEq, Repr

/-- The TURBINE entry's fields (R79). -/
structure TurbineValues where
  teeth        : Nat
  polePairs    : Nat
  beltNum      : Nat
  beltDen      : Nat
  gateMax      : Nat
  startOpening : Nat
  openRamp     : Nat
  closeRamp    : Nat
  openStep     : Nat
  closeStep    : Nat
  shareLow     : Nat
  shareHigh    : Nat
  kCeiling     : Nat
  inBandWidth  : Nat
  nInBand      : Nat
  startLimit   : Nat
  lowMark      : Nat
  hysteresis   : Nat
  deriving DecidableEq, Repr

/-- The PROTECTION entry's fields (R78). -/
structure ProtectionValues where
  alarmRpm   : Nat
  tripRpm    : Nat
  restartRpm : Nat
  fTrip      : Nat
  vLow       : Nat
  vHigh      : Nat
  ovCount    : Nat
  pulseLoss  : Nat
  positions  : BitVec 31
  deriving DecidableEq, Repr

/-- The share band in force (R72). -/
structure ShareBand where
  low    : Nat
  high   : Nat
  source : BandSource
  deriving DecidableEq, Repr

/-- Turbine Supervisor (R59). `tripLatch`, `tripCause` and `tripStamp` are retained. `watch` is the count of the
speed-unknown watch while it is armed. `protection` is absent until a GOOD PROTECTION read since the reset. -/
structure Tsu where
  mode             : PlantMode
  tripLatch        : Bool
  tripCause        : Option TripCause
  tripStamp        : Option DateTime
  gate             : Nat
  startTimer       : Timer
  inBand           : Nat
  dwell            : DwellTimer
  share            : ShareBand
  pond             : Bool
  fSetView         : Nat
  alarmArmed       : Bool
  overspeed        : Nat
  overfrequency    : Nat
  watch            : Option Nat
  protectionDamage : Bool
  turbine          : TurbineValues
  turbineState     : EntryState
  protection       : Option ProtectionValues
  deriving DecidableEq, Repr

/-- State of a claim (R87): QUEUED with the time of its queuing and its wait limit in ms, or GRANTED with its hold timer. -/
inductive ClaimState where
  | queued (since limit : Nat)
  | granted (hold : Timer)
  deriving DecidableEq, Repr

/-- A claim record (R87). `order` is its rank among the present records by creation. -/
structure Claim where
  holder : Holder
  cls    : Nat
  amount : Nat
  state  : ClaimState
  order  : Nat
  deriving DecidableEq, Repr

/-- A shed list entry (R94). `order` is its rank among the present entries by joining. -/
structure ShedEntry where
  feeder : Feeder
  cls    : Nat
  reason : ShedReason
  order  : Nat
  deriving DecidableEq, Repr

/-- The BALANCE entry's fields (R83); the eight wait limits are in s. -/
structure BalanceValues where
  margin      : Nat
  grantBand   : Nat
  shedDepth   : Nat
  kShed       : Nat
  shedPause   : Nat
  restoreGap  : Nat
  settleTime  : Nat
  holdLimit   : Nat
  waitLimits  : Vector Nat 8
  deriving DecidableEq, Repr

/-- The update view (R82). -/
structure UpdateView where
  demand    : Nat
  capacity  : Nat
  state     : RegState
  freq      : Option Nat
  fSet      : Nat
  floorHits : Nat
  deriving DecidableEq, Repr

/-- Supply Balance Unit (R82). The queue stands in its order and the granted records in the order of their grants. -/
structure Sbu where
  view       : UpdateView
  voltage    : Option Nat
  voltageSt  : QState
  balance    : BalanceValues
  degraded   : Bool
  granted    : List Claim
  queue      : List Claim
  shedList   : List ShedEntry
  restoring  : Option Feeder
  shedPause  : Timer
  restoreGap : Timer
  unresolved : Bool
  deriving DecidableEq, Repr

/-- The SAW entry's fields (R107). -/
structure SawValues where
  present      : Bool
  surge        : Nat
  defaultClass : Nat
  starTime     : Nat
  deltaSettle  : Nat
  rundownTime  : Nat
  startCurrent : Nat
  stallCurrent : Nat
  tripCurrent  : Nat
  stallTime    : Nat
  iLabour      : Nat
  iStall       : Nat
  d1           : Nat
  d2           : Nat
  deriving DecidableEq, Repr

/-- Saw Drive Unit (R106). `values` is absent until a GOOD SAW read since the reset. -/
structure Sdu where
  state        : SawState
  reason       : SawReason
  cls          : Nat
  lockout      : Bool
  contactor    : Contactor
  confirm      : Confirm
  confirmTimer : HeldTimer
  starTimer    : Timer
  deltaTimer   : Timer
  rundownTimer : Timer
  stallTimer   : HeldTimer
  ringCheck    : Bool
  button       : Button
  permissive   : Permissive
  fSetView     : Nat
  feed         : Nat
  factorF      : Option Nat
  factorI      : Option Nat
  values       : Option SawValues
  entryState   : EntryState
  deriving DecidableEq, Repr

/-- A FEEDERS entry's fields (R128). -/
structure FeederValues where
  present       : Bool
  cls           : Nat
  normalLimit   : Nat
  reducedLimit  : Nat
  tripDelay     : Nat
  recloseDelay  : Nat
  lockoutWindow : Nat
  allowance     : Nat
  minClaim      : Nat
  deriving DecidableEq, Repr

/-- A feeder record (R127). `desired` (true for ON) is retained. `values` is absent until a GOOD read since the reset;
`cls` is the class in force (R129). -/
structure FeederRecord where
  desired      : Bool
  state        : FeederState
  reason       : FeederReason
  values       : Option FeederValues
  entryState   : EntryState
  cls          : Nat
  tier         : Tier
  underRestore : Bool
  preShed      : Nat
  watch        : HeldTimer
  settle       : Timer
  trip         : HeldTimer
  reclose      : Timer
  lastTrip     : Option Nat
  deriving DecidableEq, Repr

/-- Feeder Control Unit (R127). -/
structure Fcu where
  feeders     : Vector FeederRecord 12
  overVoltage : Nat
  deriving DecidableEq, Repr

/-- An energy account (R146); all of it is retained. -/
structure Account where
  low       : Nat
  standard  : Nat
  peak      : Nat
  daily     : Nat
  remainder : Nat
  atMax     : Bool
  gap       : Bool
  deriving DecidableEq, Repr

/-- Energy Account Unit (R146, R152). Account n stands at n - 1; the tiers of accounts 1 to 12 are retained too. -/
structure Eau where
  accounts : Vector Account 14
  tiers    : Vector Tier 12
  band     : TariffBand
  dayType  : Option DayType
  slot     : Option Nat
  basis    : BandBasis
  deriving DecidableEq, Repr

/-- The last evaluation record (R169); entries are held by number. -/
structure Evaluation where
  stamp   : Stamp
  ran     : List Nat
  skipped : List Nat
  deriving DecidableEq, Repr

/-- Calendar and Schedule Unit (R159). Everything but `lastEvaluation` is retained. -/
structure Csu where
  year    : Nat
  month   : Nat
  day     : Nat
  hour    : Nat
  minute  : Nat
  second  : Nat
  weekday : Weekday
  valid   : Bool
  divider : Nat
  lastEvaluation : Option Evaluation
  deriving DecidableEq, Repr

/-- The condition of a stored entry's bits against its check code (R177, R178), which only a read finds. -/
inductive BitError where
  | clean
  | single (syndrome : Word)
  | double
  deriving DecidableEq, Repr

/-- A stored entry that is not EMPTY (R170). -/
inductive Stored where
  | good (image : Image) (error : BitError)
  | damaged
  deriving DecidableEq, Repr

/-- A physical bank: its entries that are not EMPTY, with their indexes, in strictly rising order. -/
abbrev BankStore := List (Nat × Stored)

/-- One table's banks and fields (R170). -/
structure TableStore where
  bankA      : BankStore
  bankB      : BankStore
  active     : Bank
  pending    : Bool
  generation : BitVec 8
  history    : Bool
  deriving DecidableEq, Repr

/-- A record of the damaged-entry list (R179). -/
structure DamagedRef where
  table : TableId
  bank  : Bank
  index : Nat
  deriving DecidableEq, Repr

/-- The last-correction record (R177) but for its count. -/
structure Correction where
  table    : TableId
  bank     : Bank
  role     : Role
  index    : Nat
  syndrome : Word
  deriving DecidableEq, Repr

/-- Table Store (R170, R177, R179). Everything but the last-correction record and the count is retained. -/
structure Tbs where
  tables         : Vector TableStore 11
  damagedList    : List DamagedRef
  overflow       : Bool
  lastCorrection : Option Correction
  corrections    : Nat
  deriving DecidableEq, Repr

/-- A response waiting to be placed in a round (R188). -/
structure Response where
  addressee : Byte
  tag       : BitVec 4
  status    : Status
  words     : Words
  deriving DecidableEq, Repr

/-- What a taken read request returns: the event that hands it to its owner, and the status and data words that the
record gave when MMB took it (R196). -/
structure Reading where
  event  : Instr
  status : Status
  words  : Words
  deriving DecidableEq, Repr

/-- The authorised list in use (R183, R186). -/
inductive AuthList where
  | none
  | positions (set : BitVec 31)
  | every
  deriving DecidableEq, Repr

/-- Management Mailbox (R183). Bit n of the latch and of the mask stands for the cause at place n + 1 of R189; a set
mask bit means enabled. `outstanding` is the owner position and tag of a taken request not yet answered (R188).
`reading` is the record of an outstanding read request as it stood when MMB took it (R196). `lastGoodAuth` is the list
of MMB's last GOOD PROTECTION read (R186). -/
structure Mmb where
  eligibleFrom : Nat
  response     : Option Response
  outstanding  : Option (Byte × BitVec 4)
  reading      : Option Reading
  latch        : BitVec 21
  mask         : BitVec 21
  authInUse    : AuthList
  lastGoodAuth : Option (BitVec 31)
  deriving DecidableEq, Repr

end Sys2Proof.Machine

namespace Sys2Proof.Machine

/-- The state of the part. `pending` is the sender's queue, `issued` the events that blocks have issued and that
their receivers have not yet taken (log 4), `now` the timebase. -/
structure State where
  pending       : List Instr
  issued        : List Instr
  now           : Nat
  mainPresent   : Bool
  retentionHeld : Bool
  permissivePin : Permissive
  rif           : Rif
  miu           : Miu
  frg           : Frg
  tsu           : Tsu
  sbu           : Sbu
  sdu           : Sdu
  fcu           : Fcu
  eau           : Eau
  csu           : Csu
  tbs           : Tbs
  mmb           : Mmb
  deriving DecidableEq, Repr

/-- No command of this block stops the machine: every event in every state has an effect, is discarded, or is answered
with a status. Nothing raises a fault, so the type has no constructor. -/
inductive Fault where
  deriving DecidableEq, Repr

/-- Why a step has no meaning. -/
inductive Refusal where
  /-- Raised by `exec` alone, for a command whose meaning is not written; safe, because the machine stops there. -/
  | notModelled (mnemonic : String)
  deriving DecidableEq, Repr

/-- A record that no take has given a value (R21). -/
def QRecord.reset : QRecord := { value := none, freq := none, age := 0, hold := 1, atLimit := false }

/-- The shaft record after every reset (R31). -/
def Shaft.reset : Shaft :=
  { started := false, refTime := 0, tt := none, speed := none, fShaft := none, state := .never,
    overdue := .stopped, loss := .stopped }

/-- MIU after every reset (R21, R31). -/
def Miu.reset : Miu :=
  { records := Vector.replicate 64 QRecord.reset, shaft := Shaft.reset, lastScale := none, lastPulseLoss := none }

/-- The command holding with every entry absent (R4). -/
def Holding.absent : Holding :=
  { ballastStep := Vector.replicate 8 none, ballastTrim := none, gateSetpoint := none,
    feederBreaker := Vector.replicate 12 none, sawContactor := none, feed := none,
    tripRepeat := none, plantStatus := none }

/-- An empty minute accumulator (R56). -/
def MinuteAcc.empty : MinuteAcc :=
  { fMin := none, fMax := none, sum := 0, count := 0, floorHits := 0, ceilingHits := 0 }

/-- FRG after a reset in STANDBY, before its end-of-reset composition (R37). -/
def Frg.reset : Frg :=
  { state := .hold, mode := .standby, source := .none, freq := none, demand := 0, remainder := 0, lastError := none,
    fSet := 50000, kp := 0, ki := 0, floorHistory := Vector.replicate 8 false,
    ceilingHistory := Vector.replicate 8 false, floorSticky := false, ceilingSticky := false,
    shortfallSticky := false, capacity := 0, trimRating := 0, steps := Vector.replicate 8 false, stepSum := 0,
    trimShare := 0, faults := Vector.replicate 8 false, carry := 0, secondSum := 0, secondCount := 0,
    minute := MinuteAcc.empty, summary := [] }

/-- The TURBINE values with no GOOD read since the reset: every value counts as 0 (R79). -/
def TurbineValues.zero : TurbineValues :=
  { teeth := 0, polePairs := 0, beltNum := 0, beltDen := 0, gateMax := 0, startOpening := 0, openRamp := 0,
    closeRamp := 0, openStep := 0, closeStep := 0, shareLow := 0, shareHigh := 0, kCeiling := 0, inBandWidth := 0,
    nInBand := 0, startLimit := 0, lowMark := 0, hysteresis := 0 }

/-- TSU after a power-on with retention lost, before its end-of-reset reads (R60). -/
def Tsu.reset : Tsu :=
  { mode := .standby, tripLatch := false, tripCause := none, tripStamp := none, gate := 0, startTimer := .stopped,
    inBand := 0, dwell := .stopped, share := { low := 0, high := 0, source := .table }, pond := false,
    fSetView := 50000, alarmArmed := true, overspeed := 0, overfrequency := 0, watch := none,
    protectionDamage := false, turbine := TurbineValues.zero, turbineState := .empty, protection := none }

/-- The BALANCE values with no GOOD read since the reset (R83). The grant band is not used before a GOOD read; K shed,
the shed depth and the shed pause are the fixed values of the degraded condition. -/
def BalanceValues.defaults : BalanceValues :=
  { margin := 0, grantBand := 0, shedDepth := 1000, kShed := 4, shedPause := 2000, restoreGap := 10,
    settleTime := 3000, holdLimit := 30, waitLimits := Vector.replicate 8 60 }

/-- SBU after every reset, before its end-of-reset read (R82). -/
def Sbu.reset : Sbu :=
  { view := { demand := 0, capacity := 0, state := .hold, freq := none, fSet := 50000, floorHits := 0 },
    voltage := none, voltageSt := .never, balance := BalanceValues.defaults, degraded := true, granted := [],
    queue := [], shedList := [], restoring := none, shedPause := .stopped, restoreGap := .stopped,
    unresolved := false }

/-- SDU after every reset with the permissive input at a level, before its end-of-reset read (R106). -/
def Sdu.reset (level : Permissive) : Sdu :=
  { state := .stopped, reason := .none, cls := 7, lockout := false, contactor := .off, confirm := .pending,
    confirmTimer := .suspended (Config.watch * 1000) false, starTimer := .stopped, deltaTimer := .stopped,
    rundownTimer := .stopped, stallTimer := .stopped, ringCheck := false, button := .unknown, permissive := level,
    fSetView := 50000, feed := 0, factorF := none, factorI := none, values := none, entryState := .empty }

/-- A feeder record after a reset, before the end-of-reset read (R127). -/
def FeederRecord.reset (desired : Bool) (tier : Tier) : FeederRecord :=
  { desired := desired, state := .off, reason := .none, values := none, entryState := .empty, cls := 7, tier := tier,
    underRestore := false, preShed := 0, watch := .stopped, settle := .stopped, trip := .stopped,
    reclose := .stopped, lastTrip := none }

/-- An account after retention loss and after ACCOUNT-RESET (R146, R157). -/
def Account.zero : Account :=
  { low := 0, standard := 0, peak := 0, daily := 0, remainder := 0, atMax := false, gap := false }

/-- EAU after a power-on with retention lost (R146); the band is that of an invalid calendar (R152). -/
def Eau.reset : Eau :=
  { accounts := Vector.replicate 14 Account.zero, tiers := Vector.replicate 12 .normal, band := .standard,
    dayType := none, slot := none, basis := .calendarInvalid }

/-- The calendar after a power-on with retention lost (R159). -/
def Csu.reset : Csu :=
  { year := 2000, month := 1, day := 1, hour := 0, minute := 0, second := 0, weekday := .saturday, valid := false,
    divider := 0, lastEvaluation := none }

/-- A table after retention loss (R182). -/
def TableStore.empty : TableStore :=
  { bankA := [], bankB := [], active := .bankA, pending := false, generation := 0, history := false }

/-- TBS after retention loss (R182). -/
def Tbs.reset : Tbs :=
  { tables := Vector.replicate 11 TableStore.empty, damagedList := [], overflow := false, lastCorrection := none,
    corrections := 0 }

/-- MMB after every reset, before it takes any latch notice: RESTARTED latched, every cause enabled (R183). -/
def Mmb.reset : Mmb :=
  { eligibleFrom := 1, response := none, outstanding := none, reading := none, latch := 1, mask := BitVec.allOnes 21,
    authInUse := .none, lastGoodAuth := none }

/-- RIF after every reset with the timer armed for a period in ms from a time, before the owners write their
reset values (R1, R14). -/
def Rif.reset (now period : Nat) : Rif :=
  { roundTimer := .running (now + period * 1000), period := period, ring := .down, goodRun := 0, badRun := 0,
    lastRound := 255, outstanding := none, late := none, emitted := none, holding := Holding.absent }

/-- The machine right after a power-on with retention lost, at time 0 and with the permissive input open (log 6):
every table EMPTY, so the header period is 10 ms, and RETAIN-LOST (bit 1) latched beside RESTARTED (bit 0). -/
def State.reset : State :=
  { pending := [], issued := [], now := 0, mainPresent := true, retentionHeld := true, permissivePin := .opened,
    rif :=
      { Rif.reset 0 Config.defaultPeriod with
        holding :=
          { Holding.absent with
            gateSetpoint := some 0, feederBreaker := Vector.replicate 12 (some 0), sawContactor := some 0,
            feed := some 0, tripRepeat := some 0, plantStatus := some 1 } },
    miu := Miu.reset, frg := Frg.reset, tsu := Tsu.reset, sbu := Sbu.reset, sdu := Sdu.reset .opened,
    fcu := { feeders := Vector.replicate 12 (FeederRecord.reset false .normal), overVoltage := 0 },
    eau := Eau.reset, csu := Csu.reset, tbs := Tbs.reset, mmb := { Mmb.reset with latch := 3 } }

end Sys2Proof.Machine
end

