-- ==== Sys2Proof/Machine/Flags.lean ====
section
/-! DEFINITION. Values the manual derives from others, the codes of its named values (Formats), and the attention flags. -/

namespace Sys2Proof.Machine

/-! ### Derived states -/

/-- State of a quantity record (R21). -/
def recordState (r : QRecord) : QState :=
  match r.value with
  | none => .never
  | some _ => if r.age = 0 then .fresh else if r.age ≤ r.hold then .held else .stale

/-- FRESH and HELD values are current (R30). -/
def isCurrent (q : QState) : Bool :=
  match q with
  | .fresh => true
  | .held => true
  | .stale => false
  | .never => false

/-- A saturating counter of eight bits (R11, R25). -/
def saturate255 (n : Nat) : Nat := min n 255

/-- A value brought into 0 to 2^32 - 1 (R32, R195). -/
def saturate32 (n : Nat) : Nat := min n Config.max32

/-! ### Codes (Formats) -/

/-- Mode codes. -/
def modeCode (m : PlantMode) : Nat :=
  match m with
  | .standby => 1
  | .starting => 2
  | .run => 3
  | .stopping => 4
  | .tripped => 5
  | .commission => 6

/-- Quality codes. -/
def qualityCode (q : Quality) : Nat :=
  match q with
  | .empty => 0
  | .good => 1
  | .held => 2
  | .fault => 3

/-- The quality of a two-bit code; all four are defined (R192). -/
def qualityOfCode (c : Nat) : Quality :=
  match c with
  | 0 => .empty
  | 1 => .good
  | 2 => .held
  | _ => .fault

/-- Status codes. -/
def statusCode (s : Status) : Nat :=
  match s with
  | .done => 1
  | .busy => 2
  | .refusedMode => 3
  | .refusedAuth => 4
  | .badArgument => 5
  | .absent => 6
  | .invalid => 7
  | .swapPending => 8
  | .damaged => 9
  | .notLoaded => 10

/-- Sample kind codes 1 to 13, in the order of R17 (Formats, Entry images). -/
def sampleKindCode (k : SampleKind) : Nat :=
  match k with
  | .cyclePeriod => 1
  | .lineVoltage => 2
  | .genPower => 3
  | .feederCurrent => 4
  | .feederPower => 5
  | .feederBreaker => 6
  | .ballastStatus => 7
  | .sawCurrent => 8
  | .sawContactor => 9
  | .feedSetpoint => 10
  | .sawButton => 11
  | .forebayLevel => 12
  | .gatePosition => 13

/-- The sample kind of a code. -/
def sampleKindOfCode (c : Nat) : Option SampleKind :=
  match c with
  | 1 => some .cyclePeriod
  | 2 => some .lineVoltage
  | 3 => some .genPower
  | 4 => some .feederCurrent
  | 5 => some .feederPower
  | 6 => some .feederBreaker
  | 7 => some .ballastStatus
  | 8 => some .sawCurrent
  | 9 => some .sawContactor
  | 10 => some .feedSetpoint
  | 11 => some .sawButton
  | 12 => some .forebayLevel
  | 13 => some .gatePosition
  | _ => none

/-- The command kind of a code 1 to 8, in the order of the command holding table (Formats, Entry images). -/
def commandKindOfCode (c : Nat) : Option CommandKind :=
  match c with
  | 1 => some .ballastStep
  | 2 => some .ballastTrim
  | 3 => some .gateSetpoint
  | 4 => some .feederBreakerCmd
  | 5 => some .sawContactorCmd
  | 6 => some .feedCommand
  | 7 => some .tripRepeat
  | 8 => some .plantStatus
  | _ => none

/-- Number of the instances of a sample kind; 0 for an uninstanced kind (R17). -/
def sampleInstances (k : SampleKind) : Nat :=
  match k with
  | .feederCurrent => 12
  | .feederPower => 12
  | .feederBreaker => 12
  | .ballastStatus => 8
  | _ => 0

/-- Number of the instances of a command kind; 0 for an uninstanced kind (The command holding). -/
def commandInstances (k : CommandKind) : Nat :=
  match k with
  | .ballastStep => 8
  | .feederBreakerCmd => 12
  | _ => 0

/-- Largest value of a command kind (The command holding); PLANT-STATUS carries a mode code. -/
def commandMax (k : CommandKind) : Nat :=
  match k with
  | .ballastStep => 1
  | .ballastTrim => 255
  | .gateSetpoint => 1000
  | .feederBreakerCmd => 1
  | .sawContactorCmd => 2
  | .feedCommand => 1000
  | .tripRepeat => 1
  | .plantStatus => 6

/-- Smallest value of a command kind: mode codes begin at 1. -/
def commandMin (k : CommandKind) : Nat :=
  match k with
  | .plantStatus => 1
  | _ => 0

/-- Range of a sample kind (R17). -/
def sampleRange (k : SampleKind) : Nat × Nat :=
  match k with
  | .cyclePeriod => (10000, 40000)
  | .lineVoltage => (0, 3000)
  | .genPower => (0, 65535)
  | .feederCurrent => (0, 10000)
  | .feederPower => (0, 30000)
  | .feederBreaker => (0, 1)
  | .ballastStatus => (0, 1)
  | .sawCurrent => (0, 2000)
  | .sawContactor => (0, 2)
  | .feedSetpoint => (0, 1000)
  | .sawButton => (0, 2)
  | .forebayLevel => (0, 10000)
  | .gatePosition => (0, 1000)

/-- Whether an out-of-range result of a sample kind is clamped (R17); otherwise it is rejected. -/
def sampleClamps (k : SampleKind) : Bool :=
  match k with
  | .cyclePeriod => false
  | .feederBreaker => false
  | .ballastStatus => false
  | .sawContactor => false
  | .sawButton => false
  | _ => true

/-- Value of SAW-CONTACTOR-CMD (The command holding); none when withdrawn. -/
def contactorValue (c : Contactor) : Option Nat :=
  match c with
  | .off => some 0
  | .star => some 1
  | .delta => some 2
  | .withdrawn => none

/-! ### Codes of named values in live records: their order in the listing rule, from 0 (R195) -/

/-- Place of a value in a listing. -/
def codeIn {α : Type} [DecidableEq α] (order : List α) (x : α) : Nat := order.idxOf x

/-- Quantity and shaft states (R21, R31). -/
def qstateCode (x : QState) : Nat := codeIn [.never, .fresh, .held, .stale] x

/-- Ring state (Formats: 0 DOWN, 1 UP). -/
def ringCode (x : RingState) : Nat := codeIn [.down, .up] x

/-- Regulator states (R37). -/
def regStateCode (x : RegState) : Nat := codeIn [.tracking, .hold, .forcedFull, .frozen] x

/-- Frequency sources (R37). -/
def sourceCode (x : Source) : Nat := codeIn [.alternator, .shaft, .none] x

/-- Trip causes (R59). -/
def tripCauseCode (x : TripCause) : Nat :=
  codeIn [.manual, .overspeed, .overfrequency, .speedUnknown, .protectionDamaged] x

/-- Share band sources (R59). -/
def bandSourceCode (x : BandSource) : Nat := codeIn [.table, .schedule] x

/-- Saw states (R106). -/
def sawStateCode (x : SawState) : Nat := codeIn [.stopped, .queued, .star, .delta, .run, .rundown, .fault] x

/-- Saw reasons (R106). -/
def sawReasonCode (x : SawReason) : Nat :=
  codeIn [.none, .stop, .shed, .plant, .trip, .stall, .overcurrent, .permissive, .ring, .noHeadroom, .noConfirm] x

/-- Contactor command (R106). -/
def contactorCode (x : Contactor) : Nat := codeIn [.off, .star, .delta, .withdrawn] x

/-- Confirm watch (R106). -/
def confirmCode (x : Confirm) : Nat := codeIn [.confirmed, .pending, .failed] x

/-- Last button value (R106). -/
def buttonCode (x : Button) : Nat := codeIn [.released, .start, .stop, .unknown] x

/-- Permissive (R106). -/
def permissiveCode (x : Permissive) : Nat := codeIn [.opened, .closed] x

/-- Feeder states (R127). -/
def feederStateCode (x : FeederState) : Nat := codeIn [.off, .shed, .restoring, .closing, .on, .tripped, .locked] x

/-- Feeder reasons (R127). -/
def feederReasonCode (x : FeederReason) : Nat :=
  codeIn [.none, .desiredOff, .plant, .table, .allowance, .deficit, .startup, .request, .reclose, .voltage,
    .overcurrent, .mismatch, .breaker] x

/-- Shed reasons (R94). -/
def shedReasonCode (x : ShedReason) : Nat := codeIn [.deficit, .startup, .request, .reclose, .voltage] x

/-- Tiers (R146). -/
def tierCode (x : Tier) : Nat := codeIn [.normal, .reduced] x

/-- Entry statuses (R170). -/
def entryStateCode (x : EntryState) : Nat := codeIn [.empty, .good, .damaged] x

/-- Tariff bands (R152). -/
def tariffBandCode (x : TariffBand) : Nat := codeIn [.low, .standard, .peak] x

/-- Day types (R152). -/
def dayTypeCode (x : DayType) : Nat := codeIn [.workday, .rest] x

/-- Band bases (R152). -/
def basisCode (x : BandBasis) : Nat := codeIn [.table, .calendarInvalid, .entryNotGood] x

/-- Weekdays (R159). -/
def weekdayCode (x : Weekday) : Nat :=
  codeIn [.monday, .tuesday, .wednesday, .thursday, .friday, .saturday, .sunday] x

/-- Banks (R170). -/
def bankCode (x : Bank) : Nat := codeIn [.bankA, .bankB] x

/-- Roles (Formats: 0 active, 1 standby). -/
def roleCode (x : Role) : Nat := codeIn [.active, .standby] x

/-- Holders of claims: SAW, then FEEDER 1 to 12 (R87). -/
def holderCode (x : Holder) : Nat :=
  match x with
  | .saw => 0
  | .feeder n => n.val + 1

/-! ### Tables -/

/-- Place of a table, from 0. -/
def tableIndex (t : TableId) : Fin 11 :=
  match t with
  | .slotMap => 0
  | .ballast => 1
  | .regulator => 2
  | .turbine => 3
  | .protection => 4
  | .feeders => 5
  | .saw => 6
  | .balance => 7
  | .tariff => 8
  | .holidays => 9
  | .schedule => 10

/-- The table of a table id 1 to 11 (R171). -/
def tableOfId (n : Nat) : Option TableId :=
  match n with
  | 1 => some .slotMap
  | 2 => some .ballast
  | 3 => some .regulator
  | 4 => some .turbine
  | 5 => some .protection
  | 6 => some .feeders
  | 7 => some .saw
  | 8 => some .balance
  | 9 => some .tariff
  | 10 => some .holidays
  | 11 => some .schedule
  | _ => none

/-- First and last entry index of a table (R171). -/
def tableBounds (t : TableId) : Nat × Nat :=
  match t with
  | .slotMap => (0, 64)
  | .ballast => (1, 8)
  | .feeders => (1, 12)
  | .tariff => (1, 96)
  | .holidays => (1, 16)
  | .schedule => (1, 16)
  | _ => (1, 1)

/-- The entry indexes of a table, in order (R171). -/
def tableIndexes (t : TableId) : List Nat :=
  (List.range ((tableBounds t).2 + 1)).drop (tableBounds t).1

/-- Tables 1 to 8, whose every entry must be written (R175). -/
def mustBeWritten (t : TableId) : Bool := decide ((tableIndex t).val < 8)

/-- Plant modes in which management may change a standby bank (R171). -/
def writeAllowed (t : TableId) (m : PlantMode) : Bool :=
  match t with
  | .slotMap => m = .standby || m = .commission
  | .protection => m = .commission
  | _ => true

/-- The other bank. -/
def otherBank (bank : Bank) : Bank :=
  match bank with
  | .bankA => .bankB
  | .bankB => .bankA

/-! ### Attention flags (R189, R190) -/

/-- Bit of a cause in a cause set: n for the cause at place n + 1 (Formats). -/
def causeBit (c : Cause) : Nat :=
  match c with
  | .restarted => 0
  | .retainLost => 1
  | .trip => 2
  | .overspeedAlarm => 3
  | .shaftSignalLost => 4
  | .ringDown => 5
  | .tableDamaged => 6
  | .memoryCorrected => 7
  | .regSaturated => 8
  | .compositionShortfall => 9
  | .freqSourceFallback => 10
  | .shed => 11
  | .deficitUnresolved => 12
  | .feederTripped => 13
  | .feederLocked => 14
  | .sawFault => 15
  | .sawNoHeadroom => 16
  | .allowanceReached => 17
  | .meteringGap => 18
  | .forebayLow => 19
  | .startFailed => 20

/-- The set that holds one cause. -/
def causeSet (c : Cause) : BitVec 21 := BitVec.twoPow 21 (causeBit c)

/-- The attention marker: at least one cause both latched and enabled (R190). -/
def attentionMarker (m : Mmb) : Bool := m.latch &&& m.mask != 0

/-- Whether a set of causes names only the 21 causes (R191). -/
def causeSetValid (w : Word) : Bool := decide (w.toNat < 2 ^ 21)

/-- The 21-bit set of a valid cause word. -/
def causeSetOf (w : Word) : BitVec 21 := w.setWidth 21

end Sys2Proof.Machine
end

