-- ==== Sys2Proof/Machine/Operands.lean ====
section
/-! DEFINITION. The operand forms: table entry images (Formats, Entry images; R193, R194), their validation (R175),
the round frame with its CRC (R3, R192), and the word sequences of live records (R195, R196). -/

namespace Sys2Proof.Machine

/-! ### Entry images -/

/-- A bit field of an image: word, lowest bit, width. -/
structure Field where
  word  : Nat
  low   : Nat
  width : Nat
  deriving DecidableEq, Repr

/-- The value of a bit field. -/
def Field.get (f : Field) (img : Image) : Nat :=
  ((img.toList.getD f.word 0).toNat >>> f.low) % 2 ^ f.width

/-- The places of fields packed from bit 31 of a word downward, never split between words (R193). -/
def packFields (word free : Nat) (widths : List Nat) : List Field :=
  match widths with
  | [] => []
  | w :: rest =>
    if w ≤ free then ⟨word, free - w, w⟩ :: packFields word (free - w) rest
    else ⟨word + 1, 32 - w, w⟩ :: packFields (word + 1) (32 - w) rest

/-- Fields of a SLOT MAP slot entry: direction, kind, instance, safe value, multiplier, offset, hold limit. -/
def slotLayout : List Field :=
  [⟨0, 30, 2⟩, ⟨0, 24, 6⟩, ⟨0, 16, 8⟩, ⟨0, 0, 16⟩, ⟨1, 16, 16⟩, ⟨1, 0, 16⟩, ⟨2, 0, 8⟩]

/-- Fields of a FEEDERS entry, in the order of R128. -/
def feederLayout : List Field :=
  [⟨0, 31, 1⟩, ⟨0, 24, 3⟩, ⟨0, 0, 16⟩, ⟨1, 16, 16⟩, ⟨1, 0, 16⟩, ⟨2, 16, 16⟩, ⟨2, 0, 8⟩, ⟨3, 16, 16⟩, ⟨3, 0, 16⟩]

/-- The fields of an entry of a table: the central layouts of Formats, and R193 for every other table, with the
widths of the field tables of R38, R79, R78, R107, R83, R153 and R165. -/
def entryLayout (t : TableId) (index : Nat) : List Field :=
  match t with
  | .slotMap => if index = 0 then [⟨0, 0, 8⟩] else slotLayout
  | .ballast => [⟨0, 31, 1⟩, ⟨0, 30, 1⟩, ⟨0, 0, 16⟩]
  | .regulator => packFields 0 32 [16, 16, 16]
  | .turbine => packFields 0 32 [7, 4, 8, 8, 10, 10, 8, 8, 7, 7, 10, 10, 4, 13, 10, 10, 14, 11]
  | .protection => packFields 0 32 [16, 16, 16, 17, 12, 12, 8, 13, 31]
  | .feeders => feederLayout
  | .saw => packFields 0 32 [1, 16, 3, 5, 14, 7, 11, 11, 11, 14, 11, 11, 14, 14]
  | .balance => packFields 0 32 [13, 13, 13, 4, 14, 6, 15, 7, 10, 10, 10, 10, 10, 10, 10, 10]
  | .tariff => packFields 0 32 [2]
  | .holidays => packFields 0 32 [4, 5]
  | .schedule => packFields 0 32 [1, 6, 5, 7, 6, 2, 3, 4, 20]

/-- Value of field i of an entry. -/
def entryField (t : TableId) (index : Nat) (img : Image) (i : Nat) : Nat :=
  ((entryLayout t index).map (·.get img)).getD i 0

/-- The bits of a word that belong to fields. -/
def fieldMask (fields : List Field) (word : Nat) : Nat :=
  fields.foldl (fun m f => if f.word = word then m ||| ((2 ^ f.width - 1) <<< f.low) else m) 0

/-- No set bit stands outside the fields (R194). -/
def noStrayBits (fields : List Field) (img : Image) : Bool :=
  (List.range 7).all fun w =>
    let v := (img.toList.getD w 0).toNat
    v &&& fieldMask fields w == v

/-- A signed 16-bit field. -/
def signed16 (n : Nat) : Int := if n < 32768 then (n : Int) else (n : Int) - 65536

/-- A SLOT MAP slot entry as R16 applies it. -/
inductive SlotRole where
  | unused
  | sample (kind : SampleKind) (inst mult : Nat) (offset : Int) (hold : Nat)
  | command (kind : CommandKind) (inst safe : Nat)
  deriving DecidableEq, Repr

/-- The slot entry of an image (R16, Formats). A direction or kind without a code cannot be stored (R194). -/
def slotRole (img : Image) : SlotRole :=
  let f := entryField .slotMap 1 img
  match f 0 with
  | 1 =>
    match sampleKindOfCode (f 1) with
    | some k => .sample k (f 2) (f 4) (signed16 (f 5)) (f 6)
    | none => .unused
  | 2 =>
    match commandKindOfCode (f 1) with
    | some k => .command k (f 2) (f 3)
    | none => .unused
  | _ => .unused

/-- The round period of a SLOT MAP header image. -/
def headerPeriod (img : Image) : Nat := entryField .slotMap 0 img 0

/-- A BALLAST entry (R48). -/
structure BallastEntry where
  present : Bool
  trim    : Bool
  rating  : Nat
  deriving DecidableEq, Repr

/-- The BALLAST entry of an image. -/
def ballastEntry (img : Image) : BallastEntry :=
  let f := entryField .ballast 1 img
  { present := f 0 == 1, trim := f 1 == 1, rating := f 2 }

/-- f_set, Kp and Ki of a REGULATOR image (R38). -/
def regulatorEntry (img : Image) : Nat × Nat × Nat :=
  let f := entryField .regulator 1 img
  (f 0, f 1, f 2)

/-- The TURBINE entry of an image (R79). -/
def turbineEntry (img : Image) : TurbineValues :=
  let f := entryField .turbine 1 img
  { teeth := f 0, polePairs := f 1, beltNum := f 2, beltDen := f 3, gateMax := f 4, startOpening := f 5,
    openRamp := f 6, closeRamp := f 7, openStep := f 8, closeStep := f 9, shareLow := f 10, shareHigh := f 11,
    kCeiling := f 12, inBandWidth := f 13, nInBand := f 14, startLimit := f 15, lowMark := f 16, hysteresis := f 17 }

/-- The PROTECTION entry of an image (R78). -/
def protectionEntry (img : Image) : ProtectionValues :=
  let f := entryField .protection 1 img
  { alarmRpm := f 0, tripRpm := f 1, restartRpm := f 2, fTrip := f 3, vLow := f 4, vHigh := f 5, ovCount := f 6,
    pulseLoss := f 7, positions := BitVec.ofNat 31 (f 8) }

/-- The FEEDERS entry of an image (R128). -/
def feederEntry (img : Image) : FeederValues :=
  let f := entryField .feeders 1 img
  { present := f 0 == 1, cls := f 1, normalLimit := f 2, reducedLimit := f 3, tripDelay := f 4, recloseDelay := f 5,
    lockoutWindow := f 6, allowance := f 7, minClaim := f 8 }

/-- The SAW entry of an image (R107); present is coded no 0, yes 1, in the order of its column. -/
def sawEntry (img : Image) : SawValues :=
  let f := entryField .saw 1 img
  { present := f 0 == 1, surge := f 1, defaultClass := f 2, starTime := f 3, deltaSettle := f 4, rundownTime := f 5,
    startCurrent := f 6, stallCurrent := f 7, tripCurrent := f 8, stallTime := f 9, iLabour := f 10, iStall := f 11,
    d1 := f 12, d2 := f 13 }

/-- The BALANCE entry of an image (R83). -/
def balanceEntry (img : Image) : BalanceValues :=
  let f := entryField .balance 1 img
  { margin := f 0, grantBand := f 1, shedDepth := f 2, kShed := f 3, shedPause := f 4, restoreGap := f 5,
    settleTime := f 6, holdLimit := f 7, waitLimits := Vec.ofFn fun i => f (8 + i.val) }

/-- The band of a TARIFF image (R153). -/
def tariffEntry (img : Image) : TariffBand :=
  match entryField .tariff 1 img 0 with
  | 0 => .low
  | 2 => .peak
  | _ => .standard

/-- Month and day of a HOLIDAYS image (R153). -/
def holidayEntry (img : Image) : Nat × Nat :=
  let f := entryField .holidays 1 img
  (f 0, f 1)

/-- Holiday rules (R165). -/
inductive HolidayRule where
  | any | skipHolidays | holidaysOnly
  deriving DecidableEq, Repr

/-- Schedule actions with their target and argument (R165). -/
inductive ScheduleAction where
  | feederWantOn (feeder : Nat)
  | feederWantOff (feeder : Nat)
  | sawClass (cls : Nat)
  | sawLockout (code : Nat)
  | dayBoundary
  | shareBand (low high : Nat)
  deriving DecidableEq, Repr

/-- A SCHEDULE entry (R165). `hour` and `date` are absent for ANY. -/
structure ScheduleEntry where
  enabled  : Bool
  minute   : Nat
  hour     : Option Nat
  weekdays : Nat
  date     : Option Nat
  holiday  : HolidayRule
  action   : ScheduleAction
  deriving DecidableEq, Repr

/-- The SCHEDULE entry of an image. Enabled is coded yes 0, no 1 in the order of R165 (log 27); ANY is all ones (R193). -/
def scheduleEntry (img : Image) : ScheduleEntry :=
  let f := entryField .schedule 1 img
  let first := f 8 / 1024
  let second := f 8 % 1024
  { enabled := f 0 == 0
    minute := f 1
    hour := if f 2 = 31 then none else some (f 2)
    weekdays := f 3
    date := if f 4 = 63 then none else some (f 4)
    holiday := match f 5 with | 0 => .any | 1 => .skipHolidays | _ => .holidaysOnly
    action :=
      match f 6 with
      | 0 => .feederWantOn (f 7)
      | 1 => .feederWantOff (f 7)
      | 2 => .sawClass first
      | 3 => .sawLockout first
      | 4 => .dayBoundary
      | _ => .shareBand first second }

/-- The argument of a SCHEDULE action carries a code: a lockout is off or on, or the argument is none, all ones (R193,
R194; log 29). The other arguments are numbers. -/
def argumentCoded (action argument : Nat) : Bool :=
  action != 3 || decide (argument / 1024 ≤ 1) || argument == 2 ^ 20 - 1

/-- Encodability of an image at WRITE-ENTRY (R194): no stray bit, and every coded field carries a code of its layout,
but for the fields of an UNUSED slot entry. -/
def encodable (t : TableId) (index : Nat) (img : Image) : Bool :=
  let f := entryField t index img
  noStrayBits (entryLayout t index) img &&
  match t with
  | .slotMap =>
    if index = 0 then true
    else
      match f 0 with
      | 0 => true
      | 1 => (sampleKindOfCode (f 1)).isSome
      | 2 => (commandKindOfCode (f 1)).isSome
      | _ => false
  | .tariff => decide (f 0 ≤ 2)
  | .schedule => decide (f 5 ≤ 2) && decide (f 6 ≤ 5) && argumentCoded (f 6) (f 8)
  | _ => true

/-! ### Validation of one entry at a SWAP (R175, check 3) -/

/-- A value within bounds. -/
def within (lo hi n : Nat) : Bool := decide (lo ≤ n) && decide (n ≤ hi)

/-- A round period the part accepts (R1, R18). -/
def validPeriod (p : Nat) : Bool := p = 5 || p = 8 || p = 10 || p = 16 || p = 20

/-- An instance fits a kind with so many instances; 0 stands for none (R17). -/
def validInstance (instances inst : Nat) : Bool :=
  if instances = 0 then inst == 0 else within 1 instances inst

/-- R18 checks 2 to 6 on a slot entry. -/
def validSlot (img : Image) : Bool :=
  match slotRole img with
  | .unused => true
  | .sample k inst mult _ hold =>
    validInstance (sampleInstances k) inst && within 1 65535 mult && within 1 32 hold
  | .command k inst safe =>
    validInstance (commandInstances k) inst && within (commandMin k) (commandMax k) safe

/-- R48 check 2. -/
def validBallast (e : BallastEntry) : Bool := !e.present || within 100 20000 e.rating

/-- Ranges and relations of R79. -/
def validTurbine (v : TurbineValues) : Bool :=
  within 1 64 v.teeth && within 1 8 v.polePairs && within 1 255 v.beltNum && within 1 255 v.beltDen &&
  within 0 1000 v.gateMax && within 0 v.gateMax v.startOpening && within 1 200 v.openRamp &&
  within 1 200 v.closeRamp && within 0 100 v.openStep && within 0 100 v.closeStep && within 0 1000 v.shareLow &&
  within 0 1000 v.shareHigh && decide (v.shareLow < v.shareHigh) && within 1 8 v.kCeiling &&
  within 10 5000 v.inBandWidth && within 1 1000 v.nInBand && within 60 600 v.startLimit &&
  within 0 10000 v.lowMark && within 0 2000 v.hysteresis

/-- Number of positions in a set. -/
def positionCount (set : BitVec 31) : Nat := ((List.range 31).filter fun i => set.getLsbD i).length

/-- Ranges and relations of R78. -/
def validProtection (v : ProtectionValues) : Bool :=
  within 1 60000 v.alarmRpm && within 1 60000 v.tripRpm && within 1 60000 v.restartRpm &&
  decide (v.restartRpm < v.alarmRpm) && decide (v.alarmRpm ≤ v.tripRpm) && within 45000 100000 v.fTrip &&
  within 0 3000 v.vLow && within 0 3000 v.vHigh && decide (v.vLow < v.vHigh) && within 1 255 v.ovCount &&
  within 500 5000 v.pulseLoss && decide (positionCount v.positions ≤ 4)

/-- Ranges of R128. -/
def validFeeder (v : FeederValues) : Bool :=
  !v.present ||
  (within 0 7 v.cls && within 1 10000 v.normalLimit && within 0 v.normalLimit v.reducedLimit &&
   within 100 10000 v.tripDelay && within 5 600 v.recloseDelay && within 1 60 v.lockoutWindow &&
   within 0 65535 v.allowance && within 0 30000 v.minClaim)

/-- Ranges and relations of R107. -/
def validSaw (v : SawValues) : Bool :=
  !v.present ||
  (within 100 65535 v.surge && within 0 7 v.defaultClass && within 1 30 v.starTime &&
   within 500 10000 v.deltaSettle && within 5 120 v.rundownTime && within 10 2000 v.startCurrent &&
   within 10 2000 v.stallCurrent && within 10 2000 v.tripCurrent && within 100 10000 v.stallTime &&
   within 0 2000 v.iLabour && within 0 2000 v.iStall && within 0 10000 v.d1 && within 0 10000 v.d2 &&
   decide (v.startCurrent < v.tripCurrent) && decide (v.stallCurrent < v.tripCurrent) &&
   decide (v.iLabour < v.iStall) && decide (v.iStall ≤ v.stallCurrent) && decide (v.d1 < v.d2))

/-- Ranges of R83. -/
def validBalance (v : BalanceValues) : Bool :=
  within 0 5000 v.margin && within 0 5000 v.grantBand && within 100 5000 v.shedDepth && within 1 8 v.kShed &&
  within 500 10000 v.shedPause && within 1 60 v.restoreGap && within 100 30000 v.settleTime &&
  within 1 120 v.holdLimit && v.waitLimits.toList.all (within 1 600)

/-- Length of a month; February has 29 days in a leap year (R160). -/
def monthLength (leap : Bool) (month : Nat) : Nat :=
  match month with
  | 2 => if leap then 29 else 28
  | 4 => 30
  | 6 => 30
  | 9 => 30
  | 11 => 30
  | _ => 31

/-- Ranges of a HOLIDAYS entry, with 29 allowed for February (R153). -/
def validHoliday (month day : Nat) : Bool := within 1 12 month && within 1 (monthLength true month) day

/-- Ranges of an enabled SCHEDULE entry (R165). -/
def validSchedule (img : Image) : Bool :=
  let e := scheduleEntry img
  let target := entryField .schedule 1 img 7
  !e.enabled ||
  (within 0 59 e.minute && (e.hour.all (within 0 23)) && decide (e.weekdays ≠ 0) && (e.date.all (within 1 31)) &&
   (within 1 12 target || target == 15) &&
   match e.action with
   | .feederWantOn n => within 1 12 n
   | .feederWantOff n => within 1 12 n
   | .sawClass c => within 0 7 c
   | .sawLockout c => within 0 1 c
   | .dayBoundary => true
   | .shareBand low high => within 0 1000 low && within 0 1000 high)

/-- The fields of a GOOD entry lie within their ranges and keep their relations (R175, check 3). -/
def entryValid (t : TableId) (index : Nat) (img : Image) : Bool :=
  match t with
  | .slotMap => if index = 0 then validPeriod (headerPeriod img) else validSlot img
  | .ballast => validBallast (ballastEntry img)
  | .regulator => within 45000 65000 (regulatorEntry img).1
  | .turbine => validTurbine (turbineEntry img)
  | .protection => validProtection (protectionEntry img)
  | .feeders => validFeeder (feederEntry img)
  | .saw => validSaw (sawEntry img)
  | .balance => validBalance (balanceEntry img)
  | .tariff => decide (entryField .tariff 1 img 0 ≤ 2)
  | .holidays => validHoliday (holidayEntry img).1 (holidayEntry img).2
  | .schedule => validSchedule img

/-! ### The round frame (R3, R192) -/

/-- One bit into the CRC register, generator x^16 + x^12 + x^5 + 1 (R3). -/
def crcBit (crc : BitVec 16) (bit : Bool) : BitVec 16 :=
  if crc.msb != bit then (crc <<< 1) ^^^ 0x1021#16 else crc <<< 1

/-- One byte into the CRC register, most significant bit first (R3). -/
def crcByte (crc : BitVec 16) (b : Byte) : BitVec 16 :=
  [7, 6, 5, 4, 3, 2, 1, 0].foldl (fun c i => crcBit c (b.getLsbD i)) crc

/-- The CRC-16 of bytes: preset to all ones, not inverted at the end (R3). -/
def crc16 (bytes : List Byte) : BitVec 16 := bytes.foldl crcByte 0xFFFF#16

/-- A 16-bit value, most significant byte first. -/
def halfBytes (h : BitVec 16) : List Byte := [h.extractLsb' 8 8, h.extractLsb' 0 8]

/-- A data word, most significant byte first. -/
def wordBytes (w : Word) : List Byte :=
  [w.extractLsb' 24 8, w.extractLsb' 16 8, w.extractLsb' 8 8, w.extractLsb' 0 8]

/-- A slot: raw value, then the quality byte (Formats). -/
def slotBytes (s : Slot) : List Byte := halfBytes s.raw ++ [BitVec.ofNat 8 (qualityCode s.quality)]

/-- The empty mailbox region: position FF, every other byte 0 (R6, R192). -/
def emptyRegion : List Byte := 0xFF#8 :: List.replicate 34 0#8

/-- The response region (Formats). -/
def responseRegion (r : Option Response) : List Byte :=
  match r with
  | none => emptyRegion
  | some r =>
    [r.addressee, r.tag.setWidth 8, BitVec.ofNat 8 (statusCode r.status)] ++ r.words.toList.flatMap wordBytes

/-- What a frame is composed from (R2). -/
structure FrameParts where
  round        : Nat
  mode         : PlantMode
  ring         : RingState
  marker       : Bool
  shedCount    : Nat
  eligibleFrom : Nat
  slots        : List Slot
  response     : Option Response

/-- The bytes of a frame that its CRC covers: offsets 2 to 269, spoilt marker clear (R3, Formats). -/
def frameBody (p : FrameParts) : List Byte :=
  [BitVec.ofNat 8 p.round, BitVec.ofNat 8 (modeCode p.mode),
   BitVec.ofNat 8 ((if p.ring = .up then 1 else 0) + (if p.marker then 2 else 0)),
   BitVec.ofNat 8 p.shedCount, BitVec.ofNat 8 p.eligibleFrom] ++
  p.slots.flatMap slotBytes ++ emptyRegion ++ responseRegion p.response ++ [0#8]

/-- The 272 bytes of a frame (Formats). -/
def frameBytes (p : FrameParts) : List Byte :=
  [0xA6#8, 0x5C#8] ++ frameBody p ++ halfBytes (crc16 (frameBody p))

/-- The bytes from the first start marker on; bytes before it are discarded (R7). -/
def fromStartMarker (bytes : List Byte) : Option (List Byte) :=
  match bytes with
  | [] => none
  | b :: rest =>
    match rest with
    | [] => none
    | c :: _ => if b = 0xA6#8 ∧ c = 0x5C#8 then some (b :: rest) else fromStartMarker rest

/-- Byte at an offset of a frame. -/
def byteAt (frame : List Byte) (i : Nat) : Byte := frame.getD i 0

/-- The big-endian word at an offset. -/
def wordAt (frame : List Byte) (i : Nat) : Word :=
  byteAt frame i ++ byteAt frame (i + 1) ++ byteAt frame (i + 2) ++ byteAt frame (i + 3)

/-- The returned CRC field equals the CRC of offsets 2 to 269 of a whole frame (R3); a truncated one fails (R7). -/
def crcPasses (frame : List Byte) : Bool :=
  frame.length == Config.frameLength &&
  byteAt frame 270 ++ byteAt frame 271 == crc16 ((frame.drop 2).take 268)

/-- Returned round number (R192). -/
def returnedRound (frame : List Byte) : Nat := (byteAt frame 2).toNat

/-- Spoilt marker: set when the byte is not 0 (Formats). -/
def spoilt (frame : List Byte) : Bool := byteAt frame 269 != 0

/-- Returned slot k; bits 7 to 2 of the quality byte are ignored (R192). -/
def returnedSlot (frame : List Byte) (k : Nat) : Slot :=
  { raw := byteAt frame (7 + 3 * k) ++ byteAt frame (8 + 3 * k)
    quality := qualityOfCode ((byteAt frame (9 + 3 * k)).toNat % 4) }

/-- The 64 returned slots. -/
def returnedSlots (frame : List Byte) : Vector Slot 64 := Vec.ofFn fun k => returnedSlot frame k.val

/-- The returned request region (R192), with the eligible-from position its round's header carried. -/
def returnedRegion (frame : List Byte) (eligibleFrom : Nat) : RequestRegion :=
  { owner := byteAt frame 199
    tag := (byteAt frame 200).setWidth 4
    kind := byteAt frame 201
    words := Vec.ofFn fun i => wordAt frame (202 + 4 * i.val)
    eligibleFrom := eligibleFrom }

/-! ### Live record images (R195, R196) -/

/-- A field of a live record: its words, and whether it is present. -/
structure LiveField where
  present : Bool
  words   : List Word

/-- An unsigned field, saturating at 2^32 - 1 (R195). -/
def liveNat (n : Nat) : LiveField := ⟨true, [BitVec.ofNat 32 (saturate32 n)]⟩

/-- A signed field (R195). -/
def liveInt (i : Int) : LiveField := ⟨true, [BitVec.ofInt 32 i]⟩

/-- A field that may be absent (R195: an absent field occupies its words with 0). -/
def liveOpt (o : Option Nat) : LiveField :=
  match o with
  | some n => liveNat n
  | none => ⟨false, [0]⟩

/-- A signed field that may be absent. -/
def liveOptInt (o : Option Int) : LiveField :=
  match o with
  | some i => liveInt i
  | none => ⟨false, [0]⟩

/-- A list field: a count word and one word per item (R195); an absent one is one word 0 (log 30). -/
def liveList (o : Option (List Nat)) : LiveField :=
  match o with
  | some l => ⟨true, BitVec.ofNat 32 l.length :: l.map (BitVec.ofNat 32)⟩
  | none => ⟨false, [0]⟩

/-- The parts of a stamp that may be absent: each is a field of one word with a presence bit of its own (R195; log 30). -/
def liveParts (size : Nat) (o : Option (List Nat)) : List LiveField :=
  match o with
  | some l => l.map liveNat
  | none => List.replicate size (liveOpt none)

/-- Code of a two-valued field whose rule lists the true value first (log 27). -/
def trueFirst (b : Bool) : Nat := if b then 0 else 1

/-- Code of a two-valued field whose rule lists the false value first. -/
def falseFirst (b : Bool) : Nat := if b then 1 else 0

/-- A bit set with item i of the list in bit i (R195). -/
def bitSet (l : List Bool) : Nat :=
  match l with
  | [] => 0
  | b :: rest => (if b then 1 else 0) + 2 * bitSet rest

/-- The presence words: one bit a field, from bit 31 of the first word downward (R195). -/
def presenceWord (l : List Bool) : Word :=
  BitVec.ofNat 32 ((bitSet (l.take 32 ++ List.replicate (32 - l.length) false).reverse))

/-- Presence words of a list of fields, at most `fuel` words. -/
def presenceWords (fuel : Nat) (l : List Bool) : List Word :=
  match fuel with
  | 0 => []
  | fuel + 1 => if l.isEmpty then [] else presenceWord l :: presenceWords fuel (l.drop 32)

/-- The image of a live record (R195). -/
def liveImage (fields : List LiveField) : List Word :=
  presenceWords fields.length (fields.map (·.present)) ++ fields.flatMap (·.words)

/-- Eight words from a list, with words past its end at 0. -/
def wordsOf (l : List Word) : Words := Vec.ofFn fun i => l.getD i.val 0

/-- Page p of an image, or none beyond its last page (R196). -/
def livePage (image : List Word) (page : Word) : Option Words :=
  if 8 * page.toNat < image.length then some (wordsOf (image.drop (8 * page.toNat))) else none

end Sys2Proof.Machine
end

