-- ==== Sys2Proof/Machine/Ops.lean ====
section
/-! DEFINITION. The operations that the meanings share: power and time, events between blocks, the table store with
its error correction, the command holding, and the views of quantities. -/

namespace Sys2Proof.Machine

/-! ### Power, time and events -/

/-- A command has its effect while the main supply is present; without it the part does not run (log 9). -/
def powered (s t : State) : State := if s.mainPresent then t else s

/-- The calendar counts while the main supply is present or the backup supply holds the retained domain (R159). -/
def calendarCounts (s : State) : Bool := s.mainPresent || s.retentionHeld

/-- Time passes on the timebase, and on the calendar's divider (R160). -/
def elapse (us : Nat) (s : State) : State :=
  { s with
    now := s.now + us
    csu := { s.csu with divider := if calendarCounts s then s.csu.divider + us else s.csu.divider } }

/-- The timebase is brought to a time that an event implies has come (log 2). -/
def advanceTo (time : Nat) (s : State) : State := elapse (time - s.now) s

/-- A block issues an event for another block to take (R29, R61, R187; log 4). -/
def issue (e : Instr) (s : State) : State := { s with issued := s.issued ++ [e] }

/-- Several events issued in order. -/
def issueAll (es : List Instr) (s : State) : State := { s with issued := s.issued ++ es }

/-- A block takes an event: if it is in flight it is no longer (log 4). -/
def take (e : Instr) (s : State) : State := { s with issued := s.issued.erase e }

/-- A block hands MMB a latch notice (R189). -/
def latch (c : Cause) (s : State) : State := issue (.latchNotice c) s

/-- An owner returns a status and data words to MMB (R187). -/
def answer (status : Status) (words : List Word) (s : State) : State := issue (.ownerAnswer status (wordsOf words)) s

/-- Deadline of a timer started now for a time in ms. -/
def deadlineIn (ms : Nat) (s : State) : Nat := s.now + ms * 1000

/-- A timer started now for a time in ms. -/
def startTimer (ms : Nat) (s : State) : Timer := .running (deadlineIn ms s)

/-- Remaining time of a timer in ms (R195); none while it is stopped. -/
def timerRemaining (t : Timer) (s : State) : Option Nat :=
  match t with
  | .stopped => none
  | .running d => some ((d - s.now) / 1000)

/-- Remaining time in ms of a timer that can be held. -/
def heldRemaining (t : HeldTimer) (s : State) : Option Nat :=
  match t with
  | .stopped => none
  | .running d => some ((d - s.now) / 1000)
  | .frozen r => some (r / 1000)
  | .suspended r _ => some (r / 1000)

/-! ### Banks -/

/-- The entry of a bank at an index; an unlisted index is EMPTY (R170, R182). -/
def bankRead (b : BankStore) (i : Nat) : Option Stored :=
  match b with
  | [] => none
  | (j, e) :: rest => if j = i then some e else bankRead rest i

/-- Stores an entry at an index, keeping the indexes rising. -/
def bankPut (b : BankStore) (i : Nat) (e : Stored) : BankStore :=
  match b with
  | [] => [(i, e)]
  | (j, d) :: rest =>
    if i < j then (i, e) :: (j, d) :: rest
    else if i = j then (i, e) :: rest
    else (j, d) :: bankPut rest i e

/-- Makes the entry at an index EMPTY. -/
def bankClear (b : BankStore) (i : Nat) : BankStore := b.filter fun p => p.1 != i

/-- Writes an entry, EMPTY for none. -/
def bankWrite (b : BankStore) (i : Nat) (e : Option Stored) : BankStore :=
  match e with
  | none => bankClear b i
  | some e => bankPut b i e

/-- The canonical form of a bank: indexes strictly rising (so an EMPTY entry is never listed twice or at all). -/
def bankWf (b : BankStore) : Bool :=
  match b with
  | [] => true
  | (i, _) :: rest => rest.all (fun p => decide (i < p.1)) && bankWf rest

/-- The canonical form of the table store. -/
def tbsWf (t : Tbs) : Bool := t.tables.toList.all fun x => bankWf x.bankA && bankWf x.bankB

/-- A table of the store. -/
def table (t : TableId) (s : State) : TableStore := s.tbs.tables[tableIndex t]

/-- The bank of a table. -/
def bankOf (x : TableStore) (b : Bank) : BankStore :=
  match b with
  | .bankA => x.bankA
  | .bankB => x.bankB

/-- The physical bank of a role (R170). -/
def bankOfRole (x : TableStore) (r : Role) : Bank :=
  match r with
  | .active => x.active
  | .standby => otherBank x.active

/-- The role of a physical bank (R170). -/
def roleOf (x : TableStore) (b : Bank) : Role := if b = x.active then .active else .standby

/-- Replaces a table. -/
def setTable (t : TableId) (x : TableStore) (s : State) : State :=
  { s with tbs := { s.tbs with tables := s.tbs.tables.set (tableIndex t) x } }

/-- Replaces the content of one bank of a table. -/
def setBank (x : TableStore) (b : Bank) (c : BankStore) : TableStore :=
  match b with
  | .bankA => { x with bankA := c }
  | .bankB => { x with bankB := c }

/-- Writes one entry of a bank. -/
def storeEntry (t : TableId) (b : Bank) (i : Nat) (e : Option Stored) (s : State) : State :=
  setTable t (setBank (table t s) b (bankWrite (bankOf (table t s) b) i e)) s

/-- Status of an entry as it stands, without a read. -/
def entryStatus (t : TableId) (r : Role) (i : Nat) (s : State) : EntryState :=
  match bankRead (bankOf (table t s) (bankOfRole (table t s) r)) i with
  | none => .empty
  | some (.good _ _) => .good
  | some .damaged => .damaged

/-- The image of an active GOOD entry as it stands, without a read. -/
def activeImage (t : TableId) (i : Nat) (s : State) : Option Image :=
  match bankRead (bankOf (table t s) (table t s).active) i with
  | some (.good img _) => some img
  | _ => none

/-! ### Reads through the error-correcting code (R177, R178, R179) -/

/-- What a read of an entry returns (R170). -/
inductive ReadResult where
  | empty
  | good (image : Image)
  | damaged
  deriving DecidableEq, Repr

/-- Status of a read. -/
def readStatus (r : ReadResult) : EntryState :=
  match r with
  | .empty => .empty
  | .good _ => .good
  | .damaged => .damaged

/-- An entry marked DAMAGED joins the damaged-entry list, or sets the overflow flag when the list is full (R179). -/
def addDamaged (d : DamagedRef) (t : Tbs) : Tbs :=
  if t.damagedList.length < Config.damagedListLength then { t with damagedList := t.damagedList ++ [d] }
  else { t with overflow := true }

/-- The correction of a single-bit error: written back, MEMORY-CORRECTED latched, the last-correction record
overwritten and its count advanced, saturating at 65,535 (R177). -/
def correctEntry (t : TableId) (b : Bank) (i : Nat) (img : Image) (syndrome : Word) (s : State) : State :=
  let s' := storeEntry t b i (some (.good img .clean)) s
  latch .memoryCorrected
    { s' with
      tbs := { s'.tbs with
        lastCorrection := some ⟨t, b, roleOf (table t s) b, i, syndrome⟩
        corrections := min (s.tbs.corrections + 1) 65535 } }

/-- An uncorrectable error: the entry becomes DAMAGED and is listed, and TABLE-DAMAGED is latched (R178). -/
def damageEntry (t : TableId) (b : Bank) (i : Nat) (s : State) : State :=
  let s' := storeEntry t b i (some .damaged) s
  latch .tableDamaged { s' with tbs := addDamaged ⟨t, b, i⟩ s'.tbs }

/-- A read of one entry of a physical bank, with its effects (R177, R178). -/
def readBank (t : TableId) (b : Bank) (i : Nat) (s : State) : ReadResult × State :=
  match bankRead (bankOf (table t s) b) i with
  | none => (.empty, s)
  | some .damaged => (.damaged, s)
  | some (.good img .clean) => (.good img, s)
  | some (.good img (.single syndrome)) => (.good img, correctEntry t b i img syndrome s)
  | some (.good _ .double) => (.damaged, damageEntry t b i s)

/-- An owner's read of an entry of the active bank. -/
def readActive (t : TableId) (i : Nat) (s : State) : ReadResult × State := readBank t (table t s).active i s

/-- A read of every entry of the active bank at the given indexes, in their order: the rules do not order the reads of
one action, and its callers give the indexes rising (log 55). -/
def readActives (t : TableId) (is : List Nat) (s : State) : List ReadResult × State :=
  match is with
  | [] => ([], s)
  | i :: rest =>
    let (r, s) := readActive t i s
    let (rs, s) := readActives t rest s
    (r :: rs, s)

/-- The owner takes a table's swap: the banks exchange roles, the mark is cleared, the history set (R176). -/
def takeSwap (t : TableId) (s : State) : State :=
  let x := table t s
  setTable t { x with active := otherBank x.active, pending := false, history := true } s

/-- Takes the table's swap if one is pending. -/
def takePending (t : TableId) (s : State) : State := if (table t s).pending then takeSwap t s else s

/-- The eleven tables in order of their ids. -/
def allTables : List TableId :=
  [.slotMap, .ballast, .regulator, .turbine, .protection, .feeders, .saw, .balance, .tariff, .holidays, .schedule]

/-- The DAMAGED entries of one bank. -/
def damagedOf (t : TableId) (b : Bank) (s : State) : List DamagedRef :=
  (bankOf (table t s) b).filterMap fun p =>
    match p.2 with
    | .damaged => some ⟨t, b, p.1⟩
    | .good _ _ => none

/-- The DAMAGED entries that have no record, in order of table id, bank A before B, and index (R179). -/
def unrecorded (s : State) : List DamagedRef :=
  (allTables.flatMap fun t => damagedOf t .bankA s ++ damagedOf t .bankB s).filter fun d => !s.tbs.damagedList.contains d

/-- A record leaves the damaged-entry list. With the overflow flag set, the first DAMAGED entry without a record is
added, and the flag is cleared if no other remains (R179). -/
def removeDamaged (d : DamagedRef) (s : State) : State :=
  if s.tbs.damagedList.contains d then
    let s := { s with tbs := { s.tbs with damagedList := s.tbs.damagedList.erase d } }
    if s.tbs.overflow then
      match unrecorded s with
      | [] => { s with tbs := { s.tbs with overflow := false } }
      | e :: rest =>
        { s with tbs := { s.tbs with damagedList := s.tbs.damagedList ++ [e], overflow := !rest.isEmpty } }
    else s
  else s

/-- A write of a standby entry with a fresh check code, or as EMPTY; its damaged record is removed (R172, R173). The write
itself does not read the entry written over (log 50). -/
def writeStandby (t : TableId) (i : Nat) (img : Option Image) (s : State) : State :=
  let b := bankOfRole (table t s) .standby
  removeDamaged ⟨t, b, i⟩ (storeEntry t b i (img.map fun x => .good x .clean) s)

/-- The table state word (Formats). -/
def tableStateWord (x : TableStore) : Word :=
  BitVec.ofNat 32
    ((if x.active = .bankB then 1 else 0) + (if x.pending then 2 else 0) + (if x.history then 4 else 0) +
      x.generation.toNat * 256)

/-! ### Quantities (R21, R30) -/

/-- A consumer's view of a quantity. -/
structure View where
  value : Option Nat
  state : QState
  deriving DecidableEq, Repr

/-- The unmapped view (R30). -/
def View.unmapped : View := { value := none, state := .never }

/-- The value while it is current, and none otherwise (R30). -/
def View.current (v : View) : Option Nat := if isCurrent v.state then v.value else none

/-- The record in a set that answers for a kind and instance (R30). -/
def setRecord (set : SampleSet) (kind : SampleKind) (inst : Nat) : Option QRecord :=
  (set.records.toList.find? fun r => r.use == some (kind, inst)).map (·.record)

/-- A set's answer for a quantity (R30); instance 0 is none. -/
def setView (set : SampleSet) (kind : SampleKind) (inst : Nat) : View :=
  match setRecord set kind inst with
  | some r => { value := r.value, state := recordState r }
  | none => View.unmapped

/-- The alternator frequency of a set and its state (R28, R29). -/
def setAlternator (set : SampleSet) : View :=
  match setRecord set .cyclePeriod 0 with
  | some r => { value := r.freq, state := recordState r }
  | none => View.unmapped

/-- f_shaft of a set's shaft record, with its state. -/
def setShaft (set : SampleSet) : View := { value := set.shaft.fShaft, state := set.shaft.state }

/-- Source and frequency of a sample set (R41, R65). -/
def setFrequency (set : SampleSet) : Source × Option Nat :=
  match (setAlternator set).current with
  | some f => (.alternator, some f)
  | none =>
    match (setShaft set).current with
    | some f => (.shaft, some f)
    | none => (.none, none)

/-- The kind and instance a slot's record answers for while its active entry is a GOOD SAMPLE entry (R21, "in use"). -/
def recordUse (k : Nat) (s : State) : Option (SampleKind × Nat) :=
  match activeImage .slotMap (k + 1) s with
  | some img =>
    match slotRole img with
    | .sample kind inst _ _ _ => some (kind, inst)
    | _ => none
  | none => none

/-- The 64 records as a sample set would carry them now (R29). -/
def currentRecords (s : State) : Vector SetRecord 64 :=
  Vec.ofFn fun k => { use := recordUse k.val s, record := s.miu.records[k] }

/-- A quantity as MIU holds it at this moment (R68, R69, R136, R139). -/
def miuView (kind : SampleKind) (inst : Nat) (s : State) : View :=
  setView { round := 0, period := 0, records := currentRecords s,
            shaft := s.miu.shaft } kind inst

/-! ### Blocks -/

/-- Changes the command holding (R4). -/
def updHolding (f : Holding → Holding) (s : State) : State :=
  { s with rif := { s.rif with holding := f s.rif.holding } }

/-- Whether the plant mode, as TSU holds it, is RUN. -/
def inRun (s : State) : Bool := s.tsu.mode = .run

/-- The record of a feeder. -/
def feeder (n : Feeder) (s : State) : FeederRecord := s.fcu.feeders[n]

/-- Replaces the record of a feeder. -/
def setFeeder (n : Feeder) (r : FeederRecord) (s : State) : State :=
  { s with fcu := { s.fcu with feeders := s.fcu.feeders.set n r } }

/-- Applies an action for each feeder 1 to 12, in order. -/
def eachFeeder (f : Feeder → State → State) (s : State) : State :=
  (List.finRange 12).foldl (fun s n => f n s) s

end Sys2Proof.Machine
end

