-- ==== Sys2Proof/Machine/Ring.lean ====
section
/-! DEFINITION. Ring Interface: round timing, emission, the command holding's way into slots, the return of a round,
and the ring states (spec/01, R1 to R20). -/

namespace Sys2Proof.Machine

/-! ### Closures and ring states -/

/-- The run counts after a good or bad closure, with the ring-up of R12 and the ring-down of R13 and their
announcements (R10, R11). -/
def countClosure (good : Bool) (s : State) : State :=
  if good then
    let run := saturate255 (s.rif.goodRun + 1)
    let s := { s with rif := { s.rif with goodRun := run, badRun := 0 } }
    if s.rif.ring = .down ∧ run = Config.upRun then
      issue .fcuRingUp { s with rif := { s.rif with ring := .up } }
    else s
  else
    let run := saturate255 (s.rif.badRun + 1)
    let s := { s with rif := { s.rif with badRun := run, goodRun := 0 } }
    if s.rif.ring = .up ∧ run = Config.downRun then
      issueAll [.fcuRingDown, .sduRingDown, .mmbRingDown] { s with rif := { s.rif with ring := .down } }
    else s

/-- The round closes: no round is outstanding, and with it goes the late number (R8). -/
def closeOutstanding (s : State) : State := { s with rif := { s.rif with outstanding := none, late := none } }

/-- A closure is handed to MIU and to TSU (R10). -/
def handClosure (c : Closure) (s : State) : State := issueAll [.miuRoundClosure c, .tsuRoundClosure c] s

/-- A round closed ACCEPTED: its slots with the ring state after the update go to MIU and TSU, its request region to
MMB (R6, R8, R10). -/
def acceptRound (o : Outstanding) (frame : List Byte) (s : State) : State :=
  let s := countClosure true (closeOutstanding s)
  issue (.mmbRequestRegion (returnedRegion frame o.eligibleFrom))
    (handClosure (.accepted (returnedSlots frame) s.rif.ring o.round o.period) s)

/-- A round closed REJECTED (R8, R10). -/
def rejectRound (s : State) : State := handClosure .rejected (countClosure false (closeOutstanding s))

/-- A round closed LOST at a timer expiry (R9, R10). -/
def loseRound (s : State) : State := handClosure .lost (countClosure false (closeOutstanding s))

/-- The outcome of an arrival against the outstanding round (R8); a stray has no effect (R7). -/
def judgeArrival (frame : List Byte) (s : State) : State :=
  match s.rif.outstanding with
  | none => s
  | some o =>
    if crcPasses frame then
      if returnedRound frame = o.round then
        if spoilt frame then rejectRound s else acceptRound o frame s
      else if s.rif.late = some (returnedRound frame) then s
      else rejectRound s
    else rejectRound s

/-- A frame received whole (R7): the first 272 bytes from a start marker on. -/
def frameArrival (bytes : List Byte) (s : State) : State :=
  match fromStartMarker bytes with
  | none => s
  | some f => if Config.frameLength ≤ f.length then judgeArrival (f.take Config.frameLength) s else s

/-- The ring in pair found idle: fewer than 272 bytes from a start marker on make a truncated arrival (R7). -/
def ringInIdle (bytes : List Byte) (s : State) : State :=
  match fromStartMarker bytes with
  | none => s
  | some f => if f.length < Config.frameLength then judgeArrival f s else s

/-! ### Emission -/

/-- The holding entry of a command kind and instance (R4, R5). -/
def holdingValue (h : Holding) (kind : CommandKind) (inst : Nat) : Option Nat :=
  match kind with
  | .ballastStep => (h.ballastStep.toList.getD (inst - 1) none)
  | .ballastTrim => h.ballastTrim
  | .gateSetpoint => h.gateSetpoint
  | .feederBreakerCmd => (h.feederBreaker.toList.getD (inst - 1) none)
  | .sawContactorCmd => h.sawContactor
  | .feedCommand => h.feed
  | .tripRepeat => h.tripRepeat
  | .plantStatus => h.plantStatus

/-- A slot with no value. -/
def emptySlot : Slot := { raw := 0, quality := .empty }

/-- One slot of an emission, from its active entry as read, the command holding and the ring state (R5). -/
def composeSlot (h : Holding) (ring : RingState) (r : ReadResult) : Slot :=
  match r with
  | .good img =>
    match slotRole img with
    | .command kind inst safe =>
      match ring with
      | .down => { raw := BitVec.ofNat 16 safe, quality := .held }
      | .up =>
        match holdingValue h kind inst with
        | some v => { raw := BitVec.ofNat 16 v, quality := .good }
        | none => emptySlot
    | _ => emptySlot
  | _ => emptySlot

/-- The indexes of the 64 slot entries (R171). -/
def slotIndexes : List Nat := (List.range 64).map (· + 1)

/-- Composition and sending of a round: every slot entry is read, the frame is composed from snapshots, the pending
response is placed, and the round is outstanding under its number (R2 steps 4 and 5, R5, R6, R20, R188). The reads are
made in rising slot number, which the rules do not fix (log 55). -/
def emitRound (s : State) : State :=
  let (reads, s) := readActives .slotMap slotIndexes s
  let parts : FrameParts :=
    { round := s.rif.lastRound, mode := s.tsu.mode, ring := s.rif.ring, marker := attentionMarker s.mmb,
      shedCount := s.sbu.shedList.length, eligibleFrom := s.mmb.eligibleFrom,
      slots := reads.map (composeSlot s.rif.holding s.rif.ring), response := s.mmb.response }
  { s with
    rif := { s.rif with
      emitted := some (frameBytes parts)
      outstanding :=
        some { round := s.rif.lastRound, period := s.rif.period, eligibleFrom := s.mmb.eligibleFrom } }
    mmb := { s.mmb with response := none } }

/-- Direction, kind and instance of a slot's active entry; none where it is EMPTY or DAMAGED (R19). -/
def slotKey (k : Nat) (s : State) : Option (Nat × Nat × Nat) :=
  (activeImage .slotMap (k + 1) s).map fun img =>
    let f := entryField .slotMap 1 img
    (f 0, f 1, f 2)

/-- A quantity record restarted: value and frequency absent, age 0, at-limit clear (R27). -/
def restartRecord (r : QRecord) : QRecord := { r with value := none, freq := none, age := 0, atLimit := false }

/-- The map-change notice: MIU restarts the records of the slots whose direction, kind or instance changed (R19, R27). -/
def mapChange (before s : State) : State :=
  { s with
    miu := { s.miu with
      records := Vec.ofFn fun k =>
        if slotKey k.val before = slotKey k.val s then s.miu.records[k] else restartRecord s.miu.records[k] } }

/-- The header entry's period comes into force if a read finds it GOOD; otherwise the period in use is kept (R1, R20). -/
def readHeader (s : State) : State :=
  match readActive .slotMap 0 s with
  | (.good img, s) => { s with rif := { s.rif with period := headerPeriod img } }
  | (_, s) => s

/-- RIF takes a pending SLOT MAP swap (R19). -/
def takeMapSwap (s : State) : State :=
  if (table .slotMap s).pending then readHeader (mapChange s (takeSwap .slotMap s)) else s

/-- Step 1 of R2: an outstanding round is lost, and its number becomes the late number (R9). -/
def closeAtExpiry (s : State) : State :=
  match s.rif.outstanding with
  | none => { s with rif := { s.rif with late := none } }
  | some o =>
    let s := loseRound s
    { s with rif := { s.rif with late := some o.round } }

/-- The round timer expires (R1, R2): it is re-armed for the period in force after the expiry. -/
def roundTimerExpiry (s : State) : State :=
  match s.rif.roundTimer with
  | .stopped => s
  | .running d =>
    let s := takeMapSwap (closeAtExpiry (advanceTo d s))
    let s := { s with
      rif := { s.rif with
        roundTimer := startTimer s.rif.period s
        lastRound := (s.rif.lastRound + 1) % 256 } }
    emitRound s

/-! ### Meanings -/

/-- ROUND_TIMER_EXPIRY (R2). -/
def execRoundTimerExpiry (s : State) : Host.Outcome State Fault Refusal := .next (powered s (roundTimerExpiry s))

/-- FRAME_ARRIVAL (R8). -/
def execFrameArrival (bytes : List Byte) (s : State) : Host.Outcome State Fault Refusal :=
  .next (powered s (frameArrival bytes s))

/-- RING_IN_IDLE (R7). -/
def execRingInIdle (bytes : List Byte) (s : State) : Host.Outcome State Fault Refusal :=
  .next (powered s (ringInIdle bytes s))

end Sys2Proof.Machine
end

