-- ==== Sys2Proof/Machine/Intake.lean ====
section
/-! DEFINITION. Measurement Intake: quantity records, conversion, sample sets, and shaft capture (spec/02, R21 to R35). -/

namespace Sys2Proof.Machine

/-! ### Quantity records -/

/-- The converted value of a raw value: round-half-up of r × m / 1024, plus the offset (R23). -/
def convert (raw mult : Nat) (offset : Int) : Int := (((raw * mult + 512) / 1024 : Nat) : Int) + offset

/-- A converted result against the range of its kind: the value taken with the at-limit flag it sets, or none where it
is discarded (R24). A REJECT kind leaves the flag clear. -/
def rangeCheck (kind : SampleKind) (x : Int) : Option (Nat × Bool) :=
  let lo := (sampleRange kind).1
  let hi := (sampleRange kind).2
  if x < (lo : Int) then (if sampleClamps kind then some (lo, true) else none)
  else if (hi : Int) < x then (if sampleClamps kind then some (hi, true) else none)
  else some (x.toNat, false)

/-- The frequency of a cycle period T: round-half-up of 10^9 / T, in mHz (R28). With T/2 exact, the sum is taken
over twice the divisor. -/
def cycleFrequency (t : Nat) : Nat := (2 * 1000000000 + t) / (2 * t)

/-- A take that yields a value (R25, R28). -/
def storeTake (kind : SampleKind) (v : Nat) (limit : Bool) (age : Nat) (r : QRecord) : QRecord :=
  { r with
    value := some v
    freq := if kind = .cyclePeriod then some (cycleFrequency v) else none
    age := age
    atLimit := limit }

/-- One more closure without a fresh value; a record with no value keeps age 0 (R21, R25, R26). -/
def ageRecord (r : QRecord) : QRecord :=
  match r.value with
  | none => r
  | some _ => { r with age := saturate255 (r.age + 1) }

/-- A returned slot taken into its record, with the hold limit set from the entry (R22 to R25). -/
def takeSlot (kind : SampleKind) (mult : Nat) (offset : Int) (hold : Nat) (slot : Slot) (r : QRecord) : QRecord :=
  let r := { r with hold := hold }
  let outcome := rangeCheck kind (convert slot.raw.toNat mult offset)
  match slot.quality with
  | .good =>
    match outcome with
    | some (v, limit) => storeTake kind v limit 0 r
    | none => ageRecord r
  | .held =>
    match outcome with
    | some (v, limit) => storeTake kind v limit (saturate255 (r.age + 1)) r
    | none => ageRecord r
  | .fault => ageRecord r
  | .empty => ageRecord r

/-- One slot of an ACCEPTED closure, handled by its active entry as read (R22, R27). -/
def handleSlot (e : ReadResult) (slot : Slot) (r : QRecord) : QRecord :=
  match e with
  | .good img =>
    match slotRole img with
    | .sample kind _ mult offset hold => takeSlot kind mult offset hold slot r
    | _ => r
  | .empty => r
  | .damaged => restartRecord r

/-- The sample set as it would be published now (R29). -/
def publishedSet (round period : Nat) (s : State) : SampleSet :=
  { round := round, period := period, records := currentRecords s, shaft := s.miu.shaft }

/-- The events by which six blocks receive a sample set (R29). -/
def publish (set : SampleSet) (s : State) : State :=
  issueAll [.frgSampleSet set, .tsuSampleSet set, .sbuSampleSet set, .sduSampleSet set, .fcuSampleSet set,
    .eauSampleSet set] s

/-- MIU handles an ACCEPTED closure: every entry is read, every slot handled, and in UP the set published (R22, R29).
The entries are read in rising slot number, which R22 does not fix (log 55). -/
def intakeAccepted (slots : Vector Slot 64) (ring : RingState) (round period : Nat) (s : State) : State :=
  let (reads, s) := readActives .slotMap slotIndexes s
  let s := { s with
    miu := { s.miu with
      records := Vec.ofFn fun k => handleSlot (reads.getD k.val .empty) slots[k] s.miu.records[k] } }
  match ring with
  | .up => publish (publishedSet round period s) s
  | .down => s

/-- A REJECTED or LOST closure ages every record in use that has a value (R26). -/
def intakeBad (s : State) : State :=
  { s with
    miu := { s.miu with
      records := Vec.ofFn fun k =>
        if (recordUse k.val s).isSome then ageRecord s.miu.records[k] else s.miu.records[k] } }

/-- MIU takes a round closure (R22, R26). -/
def miuRoundClosure (c : Closure) (s : State) : State :=
  match c with
  | .accepted slots ring round period => intakeAccepted slots ring round period s
  | .rejected => intakeBad s
  | .lost => intakeBad s

/-! ### The shaft -/

/-- Changes the shaft record. -/
def updShaft (f : Shaft → Shaft) (s : State) : State := { s with miu := { s.miu with shaft := f s.miu.shaft } }

/-- The scale of a TURBINE image. -/
def scaleOf (img : Image) : Scale :=
  let v := turbineEntry img
  { teeth := v.teeth, polePairs := v.polePairs, beltNum := v.beltNum, beltDen := v.beltDen }

/-- MIU's read of the TURBINE entry at a capture: the parameters that scale it, or none with no GOOD read since the
reset (R32). -/
def readScale (s : State) : Option Scale × State :=
  match readActive .turbine 1 s with
  | (.good img, s) => (some (scaleOf img), { s with miu := { s.miu with lastScale := some (scaleOf img) } })
  | (_, s) => (s.miu.lastScale, s)

/-- MIU's read of the pulse-loss time, in ms (R35). -/
def readPulseLoss (s : State) : Nat × State :=
  match readActive .protection 1 s with
  | (.good img, s) =>
    ((protectionEntry img).pulseLoss,
     { s with miu := { s.miu with lastPulseLoss := some (protectionEntry img).pulseLoss } })
  | (_, s) => (s.miu.lastPulseLoss.getD Config.defaultPulseLoss, s)

/-- Division rounded half up (00_scope, Arithmetic and rounding). -/
def roundHalfUp (n d : Nat) : Nat := (2 * n + d) / (2 * d)

/-- Speed of a period, in rpm (R32). -/
def shaftSpeed (x : Scale) (tt : Nat) : Nat := roundHalfUp 60000000 (x.teeth * tt)

/-- Backup frequency of a period, in mHz, held at 2^32 - 1 (R32). -/
def shaftFrequency (x : Scale) (tt : Nat) : Nat :=
  saturate32 (roundHalfUp (x.polePairs * x.beltNum * 1000000000) (x.beltDen * x.teeth * tt))

/-- A reference edge is held from now, and the loss timer starts for the pulse-loss time (R32, R35). -/
def startLoss (s : State) : State :=
  let (ms, s) := readPulseLoss s
  updShaft (fun x => { x with started := true, refTime := s.now, loss := startTimer ms s }) s

/-- A capture (R32). TURBINE is read before PROTECTION, which R32 and R35 do not fix (log 55). -/
def captureEdge (tt : Nat) (s : State) : State :=
  let (scale, s) := readScale s
  let s := startLoss s
  let s := updShaft (fun x => { x with tt := some tt, overdue := .running (s.now + 2 * tt) }) s
  match scale with
  | none => s
  | some k =>
    let c : Capture := { tt := tt, speed := shaftSpeed k tt, fShaft := shaftFrequency k tt }
    issue (.tsuCapture c)
      (updShaft (fun x => { x with speed := some c.speed, fShaft := some c.fShaft, state := .fresh }) s)

/-- A rising edge on the shaft input (R32). -/
def risingEdge (s : State) : State :=
  let x := s.miu.shaft
  if x.started then
    if s.now - x.refTime < Config.bounce then s else captureEdge (s.now - x.refTime) s
  else startLoss s

/-- The overdue timer expires (R33). -/
def overdueExpiry (s : State) : State :=
  match s.miu.shaft.overdue with
  | .stopped => s
  | .running d =>
    updShaft (fun x => { x with overdue := .stopped, state := if x.state = .fresh then .held else x.state })
      (advanceTo d s)

/-- The loss timer expires (R34). -/
def lossExpiry (s : State) : State :=
  match s.miu.shaft.loss with
  | .stopped => s
  | .running d =>
    let s := updShaft (fun x => { x with overdue := .stopped, loss := .stopped, started := false }) (advanceTo d s)
    if isCurrent s.miu.shaft.state then
      issue .tsuShaftLossNotice (updShaft (fun x => { x with state := .stale }) s)
    else s

/-- The overdue timer has expired where its deadline lies before a time (R33). -/
def overdueBefore (time : Nat) (s : State) : State :=
  match s.miu.shaft.overdue with
  | .running d => if d < time then overdueExpiry s else s
  | .stopped => s

/-- The loss timer has expired where its deadline lies before a time (R34). -/
def lossBefore (time : Nat) (s : State) : State :=
  match s.miu.shaft.loss with
  | .running d => if d < time then lossExpiry s else s
  | .stopped => s

/-- The shaft timers whose deadlines lie before a time have expired by then, the overdue timer first (R33, R34). Where
the loss timer is the earlier one the record is STALE after either order. A deadline at the time itself stays: the edge
comes first there, and a sender that has the expiry first sends it first (R34). -/
def expireShaft (time : Nat) (s : State) : State := lossBefore time (overdueBefore time s)

/-- A rising edge at a time: the shaft timers that run out before it expire first (R32 to R34; log 3). -/
def edgeAt (time : Nat) (s : State) : State := risingEdge (advanceTo time (expireShaft time s))

/-! ### Meanings -/

/-- MIU_ROUND_CLOSURE (R22). -/
def execMiuRoundClosure (c : Closure) (s : State) : Host.Outcome State Fault Refusal :=
  .next (powered s (miuRoundClosure c (take (.miuRoundClosure c) s)))

/-- SHAFT_RISING_EDGE (R32); the edge comes when the given time has passed (log 3). -/
def execShaftRisingEdge (elapsed : Nat) (s : State) : Host.Outcome State Fault Refusal :=
  .next (powered s (edgeAt (s.now + elapsed) s))

/-- OVERDUE_TIMER_EXPIRY (R33). -/
def execOverdueTimerExpiry (s : State) : Host.Outcome State Fault Refusal := .next (powered s (overdueExpiry s))

/-- LOSS_TIMER_EXPIRY (R34). -/
def execLossTimerExpiry (s : State) : Host.Outcome State Fault Refusal := .next (powered s (lossExpiry s))

end Sys2Proof.Machine
end

