-- ==== Sys2Proof/Machine/Regulator.lean ====
section
/-! DEFINITION. Frequency Regulator: regulator state, frequency source, PI law, ballast composition, metering, second
and minute accounts (spec/03, R37 to R57). -/

namespace Sys2Proof.Machine

/-- Changes FRG's record. -/
def updFrg (f : Frg → Frg) (s : State) : State := { s with frg := f s.frg }

/-! ### Ballast elements and capacity (R48, R49) -/

/-- The indexes of the eight BALLAST entries. -/
def ballastIndexes : List Nat := [1, 2, 3, 4, 5, 6, 7, 8]

/-- The ballast as one composition sees it: for each element its entry where it is GOOD with present yes, and whether
its status reports a fault. -/
structure Fitted where
  entries : Vector (Option BallastEntry) 8
  faults  : Vector Bool 8

/-- The entry of a read, where it is GOOD with present yes. -/
def fittedEntry (r : ReadResult) : Option BallastEntry :=
  match r with
  | .good img => if (ballastEntry img).present then some (ballastEntry img) else none
  | _ => none

/-- Rating of a sound element of a kind (trim or step), and 0 otherwise (R49). -/
def soundRating (b : Fitted) (trim : Bool) (n : Element) : Nat :=
  match b.entries[n] with
  | some e => if e.trim = trim ∧ b.faults[n] = false then e.rating else 0
  | none => 0

/-- Whether an element is a sound step (R49). -/
def soundStep (b : Fitted) (n : Element) : Bool :=
  match b.entries[n] with
  | some e => !e.trim && !b.faults[n]
  | none => false

/-- The ballast capacity: the sum of the ratings of the sound elements (R49). -/
def capacityOf (b : Fitted) : Nat :=
  ((List.finRange 8).map fun n => soundRating b false n + soundRating b true n).sum

/-- P_trim: the rating of the sound trim element, or 0 (R49). -/
def trimRatingOf (b : Fitted) : Nat := ((List.finRange 8).map fun n => soundRating b true n).sum

/-- Whether a GOOD present TRIM entry exists (R51, R53). -/
def trimPresent (b : Fitted) : Bool := (List.finRange 8).any fun n => (b.entries[n]).any (·.trim)

/-- Whether the trim element is sound (R49). -/
def trimSound (b : Fitted) : Bool :=
  (List.finRange 8).any fun n => (b.entries[n]).any (·.trim) && !b.faults[n]

/-- FRG's reads of the eight BALLAST entries at a composition, with the element reports in force, and whether a
BALLAST swap was taken (R48, R49). The entries are read 1 to 8, which R48 does not order (log 55). -/
def readBallast (s : State) : Fitted × Bool × State :=
  let swapped := (table .ballast s).pending
  let (reads, s) := readActives .ballast ballastIndexes (takePending .ballast s)
  ({ entries := Vec.ofFn fun n => fittedEntry (reads.getD n.val .empty), faults := s.frg.faults }, swapped, s)

/-- Capacity and P_trim of this composition are recorded (R49). -/
def recordCapacity (b : Fitted) (s : State) : State :=
  updFrg (fun f => { f with capacity := capacityOf b, trimRating := trimRatingOf b }) s

/-! ### Ballast composition (R50 to R53) -/

/-- S: the sum of the ratings now in force of the steps in a set (R50). -/
def stepSumOf (b : Fitted) (steps : Vector Bool 8) : Nat :=
  ((List.finRange 8).map fun n => if steps[n] then soundRating b false n else 0).sum

/-- Whether every step in a set is sound (R50). -/
def allSound (b : Fitted) (steps : Vector Bool 8) : Bool :=
  (List.finRange 8).all fun n => !steps[n] || soundStep b n

/-- The hold test of R50. A set with an unsound step is not held, so S needs the sound ratings only. -/
def holdsSet (b : Fitted) (swapped : Bool) (demand : Nat) (steps : Vector Bool 8) : Bool :=
  decide (stepSumOf b steps ≤ demand) && decide (demand - stepSumOf b steps ≤ trimRatingOf b) &&
  allSound b steps && !swapped

/-- One visit of the rebuild: a sound step joins when S plus its rating does not exceed the demand (R50). -/
def visitStep (b : Fitted) (demand : Nat) (acc : Vector Bool 8 × Nat) (n : Element) : Vector Bool 8 × Nat :=
  if soundStep b n && decide (acc.2 + soundRating b false n ≤ demand) then
    (acc.1.set n true, acc.2 + soundRating b false n)
  else acc

/-- The rebuilt set (R50). -/
def rebuildSet (b : Fitted) (demand : Nat) : Vector Bool 8 :=
  ((List.finRange 8).foldl (visitStep b demand) (Vector.replicate 8 false, 0)).1

/-- The set with every sound step (R52). -/
def fullSet (b : Fitted) : Vector Bool 8 := Vec.ofFn fun n => soundStep b n

/-- Trim share from the residual, and whether it is a shortfall (R51). -/
def trimOf (b : Fitted) (d : Nat) : Nat × Bool :=
  if trimSound b then
    if d ≤ trimRatingOf b then (roundHalfUp (255 * d) (trimRatingOf b), false) else (255, true)
  else (0, false)

/-- The holding entry of an element's step command (R53). -/
def stepCommand (b : Fitted) (steps : Vector Bool 8) (n : Element) : Option Nat :=
  match b.entries[n] with
  | some e => if e.trim then none else some (if steps[n] then 1 else 0)
  | none => none

/-- The nine command holding entries of FRG (R53). -/
def writeBallast (b : Fitted) (s : State) : State :=
  updHolding (fun h => { h with
    ballastStep := Vec.ofFn fun n => stepCommand b s.frg.steps n
    ballastTrim := if trimPresent b then some s.frg.trimShare else none }) s

/-- A step set, its S and a trim share come into force and are written (R50, R53). -/
def applySet (b : Fitted) (steps : Vector Bool 8) (share : Nat) (s : State) : State :=
  writeBallast b (updFrg (fun f => { f with steps := steps, stepSum := stepSumOf b steps, trimShare := share }) s)

/-- Composition outside FORCED-FULL: the set is held or rebuilt, then the trim follows the residual (R50, R51). -/
def composeDemand (b : Fitted) (swapped : Bool) (s : State) : State :=
  let demand := s.frg.demand
  let steps := if holdsSet b swapped demand s.frg.steps then s.frg.steps else rebuildSet b demand
  let trim := trimOf b (demand - stepSumOf b steps)
  let s := applySet b steps trim.1 s
  if trim.2 then latch .compositionShortfall (updFrg (fun f => { f with shortfallSticky := true }) s) else s

/-- Composition in FORCED-FULL (R52). -/
def composeFull (b : Fitted) (s : State) : State :=
  applySet b (fullSet b) (if trimSound b then 255 else 0) s

/-- Composition by the regulator state (R50, R52). -/
def compose (b : Fitted) (swapped : Bool) (s : State) : State :=
  match s.frg.state with
  | .forcedFull => composeFull b s
  | _ => composeDemand b swapped s

/-! ### The sample set -/

/-- Step 1 of R47: a pending REGULATOR swap is taken, which makes the last error absent, and the entry is read. The
answer is whether it is GOOD (R38). -/
def readRegulator (s : State) : Bool × State :=
  let s := if (table .regulator s).pending then
      updFrg (fun f => { f with lastError := none }) (takeSwap .regulator s) else s
  match readActive .regulator 1 s with
  | (.good img, s) =>
    let v := regulatorEntry img
    (true, updFrg (fun f => { f with fSet := v.1, kp := v.2.1, ki := v.2.2 }) s)
  | (_, s) => (false, s)

/-- Whether a set offers BALLAST-STATUS of an element as current with value 1 (R49). -/
def statusFault (set : SampleSet) (n : Element) : Bool :=
  (setView set .ballastStatus (n.val + 1)).current == some 1

/-- The regulator state of a sample set (R39). -/
def regState (mode : PlantMode) (entryGood : Bool) (source : Source) : RegState :=
  if mode = .tripped then .forcedFull
  else if mode = .commission then .frozen
  else if !entryGood then .frozen
  else if source = .none then .hold
  else .tracking

/-- Step 3 of R47: source and frequency, state, and last error (R39, R41, R42). -/
def selectSource (set : SampleSet) (entryGood : Bool) (s : State) : State :=
  let sf := setFrequency set
  let state := regState s.frg.mode entryGood sf.1
  let fallback := s.frg.source = .alternator ∧ sf.1 ≠ .alternator
  let keep := s.frg.source = sf.1 ∧ state = .tracking
  let s := updFrg (fun f => { f with
    state := state, source := sf.1, freq := sf.2, lastError := if keep then f.lastError else none }) s
  if fallback then latch .freqSourceFallback s else s

/-- The error of a TRACKING set, clamped to ±10,000 mHz (R43). -/
def errorOf (f fSet : Nat) : Int := max (-10000) (min 10000 ((f : Int) - (fSet : Int)))

/-- The sum acc of the PI law (R43). -/
def piSum (f : Frg) (e : Int) : Int :=
  (f.remainder : Int) + (f.kp : Int) * (e - f.lastError.getD e) + (f.ki : Int) * e

/-- The PI law with the clamps of R44; the error is that of the set (R43). -/
def piLaw (e : Int) (s : State) : State :=
  let acc := piSum s.frg e
  let proposed := (s.frg.demand : Int) + acc / 256
  let s := updFrg (fun f => { f with remainder := (acc % 256).toNat, lastError := some e }) s
  if proposed < 0 then
    latch .regSaturated (updFrg (fun f => { f with demand := 0, remainder := 0, floorSticky := true }) s)
  else if (s.frg.capacity : Int) < proposed then
    latch .regSaturated
      (updFrg (fun f => { f with demand := f.capacity, remainder := 0, ceilingSticky := true }) s)
  else updFrg (fun f => { f with demand := proposed.toNat }) s

/-- The demand held, clamped to the capacity of this set (R45). -/
def holdDemand (s : State) : State :=
  if s.frg.capacity < s.frg.demand then updFrg (fun f => { f with demand := f.capacity, remainder := 0 }) s else s

/-- Step 4 of R47 (R43, R44, R45). -/
def setDemand (s : State) : State :=
  match s.frg.state with
  | .tracking =>
    match s.frg.freq with
    | some f => piLaw (errorOf f s.frg.fSet) s
    | none => s
  | .hold => holdDemand s
  | .frozen =>
    if s.frg.mode = .commission then updFrg (fun f => { f with demand := 0, remainder := 0 }) s else holdDemand s
  | .forcedFull => updFrg (fun f => { f with demand := f.capacity, remainder := 0 }) s

/-- A history with a new entry shifted in; the oldest falls out (R46). -/
def shiftHistory (h : Vector Bool 8) (hit : Bool) : Vector Bool 8 :=
  Vec.ofFn fun i => if i.val = 0 then hit else h.toList.getD (i.val - 1) false

/-- Number of hits in a history. -/
def hitCount (h : Vector Bool 8) : Nat := (h.toList.filter id).length

/-- The error of the set in TRACKING; none in the other states (R46). -/
def trackingError (f : Frg) : Option Int :=
  match f.state with
  | .tracking => f.freq.map fun x => errorOf x f.fSet
  | _ => none

/-- Whether the set's floor entry is a hit (R46). -/
def floorHit (f : Frg) : Bool := decide (f.demand = 0) && (trackingError f).any fun e => decide (e < 0)

/-- Whether the set's ceiling entry is a hit (R46). -/
def ceilingHit (f : Frg) : Bool := decide (f.demand = f.capacity) && (trackingError f).any fun e => decide (0 < e)

/-- Step 5 of R47. -/
def shiftHistories (s : State) : State :=
  updFrg (fun f => { f with
    floorHistory := shiftHistory f.floorHistory (floorHit f)
    ceilingHistory := shiftHistory f.ceilingHistory (ceilingHit f) }) s

/-- The smaller of a present frequency and the accumulator's minimum (R56). -/
def minOpt (a f : Option Nat) : Option Nat :=
  match f, a with
  | none, a => a
  | some f, none => some f
  | some f, some a => some (min a f)

/-- The greater of a present frequency and the accumulator's maximum (R56). -/
def maxOpt (a f : Option Nat) : Option Nat :=
  match f, a with
  | none, a => a
  | some f, none => some f
  | some f, some a => some (max a f)

/-- Step 7 of R47: the second and minute accumulators (R55, R56). -/
def accumulate (s : State) : State :=
  updFrg (fun f => { f with
    secondSum := f.secondSum + f.demand
    secondCount := f.secondCount + 1
    minute :=
      { fMin := minOpt f.minute.fMin f.freq
        fMax := maxOpt f.minute.fMax f.freq
        sum := f.minute.sum + f.demand
        count := f.minute.count + 1
        floorHits := f.minute.floorHits + (if floorHit f then 1 else 0)
        ceilingHits := f.minute.ceilingHits + (if ceilingHit f then 1 else 0) } }) s

/-- Delivered ballast power P_b (R54). -/
def deliveredPower (f : Frg) : Nat := f.stepSum + f.trimShare * f.trimRating / 255

/-- The metering report of one round period, with its energy carry (R54). -/
def meter (period : Nat) (s : State) : State :=
  let t := s.frg.trimShare * s.frg.trimRating * period + s.frg.carry
  let q := t / 255
  issue (.eauMeteringReport (s.frg.stepSum * period + q) (deliveredPower s.frg))
    (updFrg (fun f => { f with carry := t % 255 }) s)

/-- The ballast update of a sample set (R47). -/
def ballastUpdateOf (round : Nat) (f : Frg) : BallastUpdate :=
  { round := round, state := f.state, source := f.source, freq := f.freq, fSet := f.fSet, demand := f.demand,
    capacity := f.capacity, floorHits := hitCount f.floorHistory, ceilingHits := hitCount f.ceilingHistory }

/-- The ballast update reaches SBU, TSU and SDU (R38, R47, R59). -/
def issueUpdate (round : Nat) (s : State) : State :=
  let u := ballastUpdateOf round s.frg
  issueAll [.sbuBallastUpdate u, .tsuBallastUpdate u, .sduBallastUpdate u] s

/-- The element reports of a set are those in force (R49). -/
def recordFaults (set : SampleSet) (s : State) : State :=
  updFrg (fun f => { f with faults := Vec.ofFn fun n => statusFault set n }) s

/-- FRG handles a sample set (R47). -/
def frgSampleSet (set : SampleSet) (s : State) : State :=
  let (entryGood, s) := readRegulator s
  let (b, swapped, s) := readBallast (recordFaults set s)
  let s := shiftHistories (setDemand (selectSource set entryGood (recordCapacity b s)))
  issueUpdate set.round (meter set.period (accumulate (compose b swapped s)))

/-! ### Notices and events -/

/-- Composition with capacity recomputed and the demand set from it, as at a mode notice and at a reset (R37, R40). -/
def recompose (state : RegState) (demandOf : Nat → Nat) (s : State) : State :=
  let (b, swapped, s) := readBallast s
  let s := updFrg (fun f => { f with
    state := state, demand := demandOf f.capacity, remainder := 0, lastError := none }) (recordCapacity b s)
  compose b swapped s

/-- FRG takes a mode notice (R40). -/
def frgModeNotice (old new : PlantMode) (s : State) : State :=
  let s := updFrg (fun f => { f with mode := new }) s
  if new = .tripped then recompose .forcedFull id s
  else if new = .commission then recompose .frozen (fun _ => 0) s
  else if old = .tripped ∨ old = .commission then updFrg (fun f => { f with state := .hold }) s
  else s

/-- FRG takes a second event: the second report goes to TSU and the accumulator is emptied (R55). -/
def frgSecondEvent (s : State) : State :=
  issue (.tsuSecondReport
      { sum := s.frg.secondSum, count := s.frg.secondCount, capacity := s.frg.capacity,
        ceilingHits := hitCount s.frg.ceilingHistory })
    (updFrg (fun f => { f with secondSum := 0, secondCount := 0 }) s)

/-- The summary entry that closes a minute accumulator (R57). -/
def closeMinute (stamp : Stamp) (m : MinuteAcc) : MinuteEntry :=
  { stamp := if stamp.valid then some stamp else none
    fMin := m.fMin, fMax := m.fMax
    average := if m.count = 0 then 0 else roundHalfUp m.sum m.count
    count := m.count, floorHits := m.floorHits, ceilingHits := m.ceilingHits }

/-- FRG takes a minute event (R57). -/
def frgMinuteEvent (stamp : Stamp) (s : State) : State :=
  updFrg (fun f => { f with
    summary := (closeMinute stamp f.minute :: f.summary).take Config.summaryLength
    minute := MinuteAcc.empty }) s

/-- FRG takes a clear notice (R44, R51). -/
def frgClearNotice (notice : ClearNotice) (s : State) : State :=
  match notice with
  | .regSaturated => updFrg (fun f => { f with floorSticky := false, ceilingSticky := false }) s
  | .compositionShortfall => updFrg (fun f => { f with shortfallSticky := false }) s

/-! ### Meanings -/

/-- FRG_SAMPLE_SET (R47). -/
def execFrgSampleSet (set : SampleSet) (s : State) : Host.Outcome State Fault Refusal :=
  .next (powered s (frgSampleSet set (take (.frgSampleSet set) s)))

/-- FRG_MODE_NOTICE (R40). -/
def execFrgModeNotice (old new : PlantMode) (s : State) : Host.Outcome State Fault Refusal :=
  .next (powered s (frgModeNotice old new (take (.frgModeNotice old new) s)))

/-- FRG_SECOND_EVENT (R55). -/
def execFrgSecondEvent (s : State) : Host.Outcome State Fault Refusal :=
  .next (powered s (frgSecondEvent (take .frgSecondEvent s)))

/-- FRG_MINUTE_EVENT (R57). -/
def execFrgMinuteEvent (stamp : Stamp) (s : State) : Host.Outcome State Fault Refusal :=
  .next (powered s (frgMinuteEvent stamp (take (.frgMinuteEvent stamp) s)))

/-- FRG_CLEAR_NOTICE (R44). -/
def execFrgClearNotice (notice : ClearNotice) (s : State) : Host.Outcome State Fault Refusal :=
  .next (powered s (frgClearNotice notice (take (.frgClearNotice notice) s)))

end Sys2Proof.Machine
end

