-- ==== Sys2Proof/Machine/Turbine.lean ====
section
/-! DEFINITION. Turbine Supervisor: plant mode, start and stop, gate trim, pond keeping, protection and the trip
(spec/04, R59 to R80). -/

namespace Sys2Proof.Machine

/-- Changes TSU's record. -/
def updTsu (f : Tsu → Tsu) (s : State) : State := { s with tsu := f s.tsu }

/-! ### Mode changes and the trip -/

/-- The four mode notices of a change (R61). -/
def modeNotices (old new : PlantMode) : List Instr :=
  [.frgModeNotice old new, .sbuModeNotice old new, .sduModeNotice old new, .fcuModeNotice old new]

/-- PLANT-STATUS and TRIP-REPEAT as the mode gives them (R80). -/
def writeModeCommands (s : State) : State :=
  updHolding (fun h => { h with
    plantStatus := some (modeCode s.tsu.mode)
    tripRepeat := some (if s.tsu.mode = .tripped then 1 else 0) }) s

/-- A change of plant mode: recorded, written, and noticed to four blocks (R61). -/
def changeMode (new : PlantMode) (s : State) : State :=
  issueAll (modeNotices s.tsu.mode new) (writeModeCommands (updTsu (fun t => { t with mode := new }) s))

/-- A gate setpoint comes into force and is written (R80). -/
def setGate (g : Nat) (s : State) : State :=
  updHolding (fun h => { h with gateSetpoint := some g }) (updTsu (fun t => { t with gate := g }) s)

/-- The calendar as a trip stamp; absent while it is invalid (R77). -/
def tripStampNow (s : State) : Option DateTime :=
  if s.csu.valid then
    some { year := s.csu.year, month := s.csu.month, day := s.csu.day, hour := s.csu.hour, minute := s.csu.minute,
           second := s.csu.second }
  else none

/-- Modes in which a trip is taken (R77). -/
def tripTaken (m : PlantMode) : Bool :=
  match m with
  | .standby => true
  | .starting => true
  | .run => true
  | .stopping => true
  | .tripped => false
  | .commission => false

/-- A trip condition is met: the trip of R77, or nothing in TRIPPED and COMMISSION. -/
def trip (cause : TripCause) (s : State) : State :=
  if tripTaken s.tsu.mode then
    let s := updTsu (fun t => { t with
      tripLatch := true, tripCause := some cause, tripStamp := tripStampNow s, startTimer := .stopped,
      dwell := .stopped, inBand := 0, overfrequency := 0, overspeed := 0, watch := none }) s
    changeMode .tripped (latch .trip (setGate 0 s))
  else s

/-! ### Table reads -/

/-- The effect of a PROTECTION read on the values in force, and the trip of a DAMAGED entry (R78). -/
def protectionRead (r : ReadResult) (s : State) : State :=
  match r with
  | .good img => updTsu (fun t => { t with protection := some (protectionEntry img), protectionDamage := false }) s
  | .empty => s
  | .damaged =>
    if s.tsu.protectionDamage then s
    else trip .protectionDamaged (updTsu (fun t => { t with protectionDamage := true }) s)

/-- A capture or sample set: a pending PROTECTION swap is taken and the entry read (R74, R78). -/
def readProtection (s : State) : State :=
  let (r, s) := readActive .protection 1 (takePending .protection s)
  protectionRead r s

/-- The effect of a TURBINE read: values and share band in force, the setpoint lowered to a lower gate maximum (R72, R79). -/
def turbineRead (r : ReadResult) (s : State) : State :=
  let s := updTsu (fun t => { t with turbineState := readStatus r }) s
  match r with
  | .good img =>
    let v := turbineEntry img
    let s := updTsu (fun t => { t with
      turbine := v
      share := if t.share.source = .table then { low := v.shareLow, high := v.shareHigh, source := .table }
               else t.share }) s
    if v.gateMax < s.tsu.gate then setGate v.gateMax s else s
  | _ => s

/-- TSU reads the active TURBINE entry (R79). -/
def readTurbine (s : State) : State :=
  let (r, s) := readActive .turbine 1 s
  turbineRead r s

/-- A ramp or step that counts as 0 while the last TURBINE read was not GOOD (R79). -/
def whileGood (t : Tsu) (n : Nat) : Nat := if t.turbineState = .good then n else 0

/-! ### Mode requests (R62 to R70) -/

/-- A value of GATE-POSITION as MIU holds it, while current (R68). -/
def gatePosition (s : State) : Option Nat := (miuView .gatePosition 0 s).current

/-- The shaft record is FRESH or HELD with a speed below a limit. -/
def shaftBelow (limit : Nat) (s : State) : Bool :=
  isCurrent s.miu.shaft.state && (s.miu.shaft.speed).any fun v => decide (v < limit)

/-- Each of tables 1 to 8 has had a swap taken (R63, R176). -/
def tablesLoaded (s : State) : Bool := allTables.all fun t => !mustBeWritten t || (table t s).history

/-- A START that passed its tests (R63). -/
def beginStart (s : State) : State :=
  changeMode .starting
    (updTsu (fun t => { t with
      startTimer := startTimer (t.turbine.startLimit * 1000) s, inBand := 0, overfrequency := 0 }) s)

/-- START in STANDBY: the tests in order, after the TURBINE read that the START made (R63). The third test looks at the
status of the PROTECTION entry and makes no read of it (log 32). -/
def judgeStart (s : State) : State :=
  if tablesLoaded s then
    if s.tsu.turbineState = .good ∧ entryStatus .protection .active 1 s = .good ∧ s.tsu.protectionDamage = false then
      answer .done [] (beginStart s)
    else answer .damaged [] s
  else answer .notLoaded [] s

/-- Entry to STOPPING (R67). -/
def enterStopping (s : State) : State :=
  changeMode .stopping
    (updTsu (fun t => { t with
      startTimer := .stopped, inBand := 0, overfrequency := 0, watch := none
      dwell := if t.gate = 0 then .running (deadlineIn Config.dwell s) else .stopped }) s)

/-- The test of RESTART (R70). -/
def restartTest (s : State) : Bool :=
  match s.tsu.protection with
  | some p => s.miu.shaft.state = .fresh && shaftBelow p.restartRpm s
  | none => !isCurrent s.miu.shaft.state && (gatePosition s).any fun g => decide (g < 10)

/-- The test of ENTER-COMMISSION (R69). -/
def commissionTest (s : State) : Bool :=
  ((s.tsu.protection).any fun p => shaftBelow p.restartRpm s) ||
  (!isCurrent s.miu.shaft.state && (gatePosition s).any fun g => decide (g < 10))

/-- PLANT START by mode (R62). TSU reads the TURBINE entry at every START (R79), before it judges it (log 49). -/
def plantStart (s : State) : State :=
  let s := readTurbine s
  match s.tsu.mode with
  | .standby => judgeStart s
  | .starting => answer .done [] s
  | .run => answer .done [] s
  | .stopping => answer .busy [] s
  | .tripped => answer .refusedMode [] s
  | .commission => answer .refusedMode [] s

/-- PLANT STOP by mode (R62, R67). -/
def plantStop (s : State) : State :=
  match s.tsu.mode with
  | .standby => answer .done [] s
  | .starting => answer .done [] (enterStopping s)
  | .run => answer .done [] (enterStopping s)
  | .stopping => answer .done [] s
  | .tripped => answer .refusedMode [] s
  | .commission => answer .refusedMode [] s

/-- PLANT TRIP by mode (R62, R77). -/
def plantTrip (s : State) : State :=
  match s.tsu.mode with
  | .commission => answer .refusedMode [] s
  | _ => answer .done [] (trip .manual s)

/-- PLANT RESTART by mode (R62, R70). -/
def plantRestart (s : State) : State :=
  match s.tsu.mode with
  | .standby => answer .done [] s
  | .tripped =>
    if restartTest s then
      answer .done [] (changeMode .standby (updTsu (fun t => { t with tripLatch := false, overspeed := 0 }) s))
    else answer .busy [] s
  | _ => answer .refusedMode [] s

/-- PLANT ENTER-COMMISSION by mode (R62, R69). -/
def plantEnterCommission (s : State) : State :=
  match s.tsu.mode with
  | .standby => if commissionTest s then answer .done [] (changeMode .commission s) else answer .busy [] s
  | .commission => answer .done [] s
  | _ => answer .refusedMode [] s

/-- PLANT LEAVE-COMMISSION by mode (R62, R69). -/
def plantLeaveCommission (s : State) : State :=
  match s.tsu.mode with
  | .standby => answer .done [] s
  | .commission => answer .done [] (changeMode .standby s)
  | _ => answer .refusedMode [] s

/-! ### Second events and timers (R64, R66, R68) -/

/-- The ramp in STARTING (R64), to the start opening in force. A setpoint above it stays (log 39); one that had reached an
opening which a swap has since raised ramps on, which R64 leaves open and is the model's choice (log 58). -/
def rampUp (s : State) : State :=
  if s.tsu.pond then s
  else if s.tsu.gate < s.tsu.turbine.startOpening then
    setGate (min (s.tsu.gate + whileGood s.tsu s.tsu.turbine.openRamp) s.tsu.turbine.startOpening) s
  else s

/-- The completion test of STOPPING (R68). -/
def completionTest (s : State) : Bool :=
  decide (s.tsu.gate = 0) &&
  (!isCurrent s.miu.shaft.state || (s.tsu.protection).any fun p => shaftBelow p.restartRpm s) &&
  match gatePosition s with
  | some g => decide (g ≤ 10)
  | none => decide (s.tsu.dwell = .expired)

/-- The ramp in STOPPING, the start of the dwell, and the completion test (R68). -/
def rampDown (s : State) : State :=
  let s := setGate (s.tsu.gate - s.tsu.turbine.closeRamp) s
  let s := if s.tsu.gate = 0 ∧ s.tsu.dwell = .stopped then
      updTsu (fun t => { t with dwell := .running (deadlineIn Config.dwell s) }) s else s
  if completionTest s then changeMode .standby (updTsu (fun t => { t with dwell := .stopped }) s) else s

/-- TSU takes a second event (R64, R68, R79). -/
def tsuSecondEvent (s : State) : State :=
  let s := readTurbine (takePending .turbine s)
  match s.tsu.mode with
  | .starting => rampUp s
  | .stopping => rampDown s
  | _ => s

/-- The start timer expires (R66). -/
def startTimerExpiry (s : State) : State :=
  match s.tsu.startTimer with
  | .stopped => s
  | .running d =>
    let s := updTsu (fun t => { t with startTimer := .stopped }) (advanceTo d s)
    if s.tsu.mode = .starting then enterStopping (latch .startFailed s) else s

/-- The dwell timer expires (R68). -/
def dwellTimerExpiry (s : State) : State :=
  match s.tsu.dwell with
  | .running d => updTsu (fun t => { t with dwell := .expired }) (advanceTo d s)
  | .stopped => s
  | .expired => s

/-! ### Sample sets (R65, R73, R75, R76) -/

/-- STARTING or RUN. -/
def startingOrRun (m : PlantMode) : Bool := m = .starting || m = .run

/-- The over-frequency check (R75). -/
def checkOverfrequency (freq : Option Nat) (s : State) : State :=
  match startingOrRun s.tsu.mode, s.tsu.protection, freq with
  | true, some p, some f =>
    if p.fTrip ≤ f then
      let s := updTsu (fun t => { t with overfrequency := t.overfrequency + 1 }) s
      if Config.overfrequencyLimit ≤ s.tsu.overfrequency then trip .overfrequency s else s
    else updTsu (fun t => { t with overfrequency := 0 }) s
  | _, _, _ => s

/-- The frequency differs from the f_set view by at most the in-band width (R65). -/
def inBandWith (t : Tsu) (f : Nat) : Bool :=
  decide (f ≤ t.fSetView + t.turbine.inBandWidth) && decide (t.fSetView ≤ f + t.turbine.inBandWidth)

/-- The in-band test of STARTING (R65). -/
def inBandTest (freq : Option Nat) (s : State) : State :=
  if s.tsu.mode = .starting then
    let count := if freq.any (inBandWith s.tsu) then s.tsu.inBand + 1 else 0
    if 0 < count ∧ s.tsu.turbine.nInBand ≤ count then
      changeMode .run (updTsu (fun t => { t with inBand := 0, startTimer := .stopped }) s)
    else updTsu (fun t => { t with inBand := count }) s
  else s

/-- Pond keeping from FOREBAY-LEVEL (R73). -/
def updatePond (level : Option Nat) (s : State) : State :=
  match level with
  | none => s
  | some v =>
    if s.tsu.pond then
      if s.tsu.turbine.lowMark + s.tsu.turbine.hysteresis ≤ v then updTsu (fun t => { t with pond := false }) s else s
    else if v < s.tsu.turbine.lowMark then latch .forebayLow (updTsu (fun t => { t with pond := true }) s)
    else s

/-- The speed-unknown watch is armed with count 0 (R76). -/
def armWatch (s : State) : State := latch .shaftSignalLost (updTsu (fun t => { t with watch := some 0 }) s)

/-- One more round without a speed source on the armed watch, with its trip (R76). -/
def countWatch (s : State) : State :=
  match s.tsu.watch with
  | none => s
  | some c =>
    let s := updTsu (fun t => { t with watch := some (c + 1) }) s
    if Config.speedUnknownLimit ≤ c + 1 then trip .speedUnknown s else s

/-- The speed-unknown watch at a sample set; the set that arms it does not count on it (R76, log 20). -/
def watchSampleSet (set : SampleSet) (s : State) : State :=
  match s.tsu.watch with
  | none => if s.tsu.mode = .run ∧ isCurrent set.shaft.state = false then armWatch s else s
  | some _ =>
    if isCurrent (setAlternator set).state then updTsu (fun t => { t with watch := some 0 }) s else countWatch s

/-- TSU takes a sample set (R65, R73, R75, R76, R78): a pending PROTECTION swap and the read of the entry first, then the
over-frequency check, the in-band test, pond keeping and the watch (log 20). -/
def tsuSampleSet (set : SampleSet) (s : State) : State :=
  let freq := (setFrequency set).2
  let s := inBandTest freq (checkOverfrequency freq (readProtection s))
  watchSampleSet set (updatePond (setView set .forebayLevel 0).current s)

/-! ### Captures, closures, reports and actions -/

/-- The overspeed alarm and count at a capture (R74). -/
def checkOverspeed (speed : Nat) (p : ProtectionValues) (s : State) : State :=
  let s :=
    if p.alarmRpm ≤ speed then
      if s.tsu.alarmArmed then latch .overspeedAlarm (updTsu (fun t => { t with alarmArmed := false }) s) else s
    else updTsu (fun t => { t with alarmArmed := true }) s
  let s := updTsu (fun t => { t with
    overspeed := if p.tripRpm ≤ speed then min (t.overspeed + 1) Config.overspeedLimit else 0 }) s
  if s.tsu.overspeed = Config.overspeedLimit then trip .overspeed s else s

/-- TSU takes a capture (R74); a capture disarms the watch (R76). -/
def tsuCapture (c : Capture) (s : State) : State :=
  let s := updTsu (fun t => { t with watch := none }) (readProtection s)
  match s.tsu.protection with
  | none => s
  | some p => checkOverspeed c.speed p s

/-- TSU takes a shaft-loss notice (R74, R76). -/
def tsuShaftLoss (s : State) : State :=
  let s := updTsu (fun t => { t with overspeed := 0, alarmArmed := true }) s
  if startingOrRun s.tsu.mode then armWatch s else s

/-- TSU takes a round closure (R76). -/
def tsuRoundClosure (c : Closure) (s : State) : State :=
  match c with
  | .accepted _ .up _ _ => s
  | .accepted _ .down _ _ => countWatch s
  | .rejected => countWatch s
  | .lost => countWatch s

/-- The share of a second report, in per mille (R71). -/
def shareOf (r : SecondReport) : Nat := r.sum * 1000 / (r.count * r.capacity)

/-- The gate setpoint that a second report gives in RUN, by the first case that holds (R71). -/
def trimmedGate (r : SecondReport) (t : Tsu) : Nat :=
  let close := whileGood t t.turbine.closeStep
  let opening := whileGood t t.turbine.openStep
  if t.turbine.kCeiling ≤ r.ceilingHits then t.gate - 2 * close
  else if t.pond then t.gate - close
  else if r.count = 0 ∨ r.capacity = 0 then t.gate
  else if t.share.high < shareOf r then t.gate - close
  else if shareOf r < t.share.low then
    (if t.gate < t.turbine.gateMax then min (t.gate + opening) t.turbine.gateMax else t.gate)
  else t.gate

/-- TSU takes a second report (R71); in any mode other than RUN it is discarded. -/
def tsuSecondReport (r : SecondReport) (s : State) : State :=
  if inRun s then setGate (trimmedGate r s.tsu) s else s

/-- A SHARE-BAND action (R72). -/
def shareBandAction (low high : Nat) (s : State) : State :=
  if low < high ∧ high ≤ 1000 then
    updTsu (fun t => { t with share := { low := low, high := high, source := .schedule } }) s
  else s

/-! ### Meanings -/

/-- PLANT_START (R63). -/
def execPlantStart (s : State) : Host.Outcome State Fault Refusal := .next (powered s (plantStart (take .plantStart s)))

/-- PLANT_STOP (R67). -/
def execPlantStop (s : State) : Host.Outcome State Fault Refusal := .next (powered s (plantStop (take .plantStop s)))

/-- PLANT_TRIP (R77). -/
def execPlantTrip (s : State) : Host.Outcome State Fault Refusal := .next (powered s (plantTrip (take .plantTrip s)))

/-- PLANT_RESTART (R70). -/
def execPlantRestart (s : State) : Host.Outcome State Fault Refusal :=
  .next (powered s (plantRestart (take .plantRestart s)))

/-- PLANT_ENTER_COMMISSION (R69). -/
def execPlantEnterCommission (s : State) : Host.Outcome State Fault Refusal :=
  .next (powered s (plantEnterCommission (take .plantEnterCommission s)))

/-- PLANT_LEAVE_COMMISSION (R69). -/
def execPlantLeaveCommission (s : State) : Host.Outcome State Fault Refusal :=
  .next (powered s (plantLeaveCommission (take .plantLeaveCommission s)))

/-- TSU_SECOND_EVENT (R68). -/
def execTsuSecondEvent (s : State) : Host.Outcome State Fault Refusal :=
  .next (powered s (tsuSecondEvent (take .tsuSecondEvent s)))

/-- START_TIMER_EXPIRY (R66). -/
def execStartTimerExpiry (s : State) : Host.Outcome State Fault Refusal := .next (powered s (startTimerExpiry s))

/-- DWELL_TIMER_EXPIRY (R68). -/
def execDwellTimerExpiry (s : State) : Host.Outcome State Fault Refusal := .next (powered s (dwellTimerExpiry s))

/-- TSU_SAMPLE_SET (R65). -/
def execTsuSampleSet (set : SampleSet) (s : State) : Host.Outcome State Fault Refusal :=
  .next (powered s (tsuSampleSet set (take (.tsuSampleSet set) s)))

/-- TSU_CAPTURE (R74). -/
def execTsuCapture (capture : Capture) (s : State) : Host.Outcome State Fault Refusal :=
  .next (powered s (tsuCapture capture (take (.tsuCapture capture) s)))

/-- TSU_SHAFT_LOSS_NOTICE (R76). -/
def execTsuShaftLossNotice (s : State) : Host.Outcome State Fault Refusal :=
  .next (powered s (tsuShaftLoss (take .tsuShaftLossNotice s)))

/-- TSU_ROUND_CLOSURE (R76). -/
def execTsuRoundClosure (c : Closure) (s : State) : Host.Outcome State Fault Refusal :=
  .next (powered s (tsuRoundClosure c (take (.tsuRoundClosure c) s)))

/-- TSU_BALLAST_UPDATE (R59): TSU takes f_set in force alone. -/
def execTsuBallastUpdate (update : BallastUpdate) (s : State) : Host.Outcome State Fault Refusal :=
  .next (powered s (updTsu (fun t => { t with fSetView := update.fSet }) (take (.tsuBallastUpdate update) s)))

/-- TSU_SECOND_REPORT (R71). -/
def execTsuSecondReport (report : SecondReport) (s : State) : Host.Outcome State Fault Refusal :=
  .next (powered s (tsuSecondReport report (take (.tsuSecondReport report) s)))

/-- SHARE_BAND (R72). -/
def execShareBand (low high : Nat) (s : State) : Host.Outcome State Fault Refusal :=
  .next (powered s (shareBandAction low high (take (.shareBand low high) s)))

end Sys2Proof.Machine
end

