-- ==== Sys2Proof/Machine/Balance.lean ====
section
/-! DEFINITION. Supply Balance Unit: headroom, claim list, shed list, shedding and restoring, with the moves of feeder
records that share its actions (spec/05, R82 to R104; R130, R136). -/

namespace Sys2Proof.Machine

/-- Changes SBU's record. -/
def updSbu (f : Sbu → Sbu) (s : State) : State := { s with sbu := f s.sbu }

/-! ### Feeder records and breaker commands -/

/-- The breaker command that a feeder's state gives (R130). -/
def breakerCommand (r : FeederRecord) : Nat :=
  match r.state with
  | .closing => 1
  | .on => 1
  | _ => 0

/-- A feeder's record changes, and its breaker command is written (R130). -/
def putFeeder (n : Feeder) (r : FeederRecord) (s : State) : State :=
  updHolding (fun h => { h with feederBreaker := h.feederBreaker.set n (some (breakerCommand r)) }) (setFeeder n r s)

/-- The breaker watch, settle and trip timers stopped, and under restore no (R131, R136). -/
def idleFeeder (r : FeederRecord) : FeederRecord :=
  { r with watch := .stopped, settle := .stopped, trip := .stopped, underRestore := false }

/-- The feeder reason of a shed reason (R127). -/
def feederReasonOf (r : ShedReason) : FeederReason :=
  match r with
  | .deficit => .deficit
  | .startup => .startup
  | .request => .request
  | .reclose => .reclose
  | .voltage => .voltage

/-- FEEDER-POWER of a feeder as MIU holds it, whatever its state, or 0 (R136, R139). -/
def lastPower (n : Feeder) (s : State) : Nat := (miuView .feederPower (n.val + 1) s).value.getD 0

/-! ### The claim list (R87) -/

/-- The records: the GRANTED ones in grant order, then the queue from its head (R105). -/
def claims (s : State) : List Claim := s.sbu.granted ++ s.sbu.queue

/-- The record of a holder. -/
def claimOf (h : Holder) (s : State) : Option Claim := (claims s).find? fun c => c.holder = h

/-- A record ranks before another in the queue: by class, then by request order (R87). -/
def claimBefore (c d : Claim) : Bool := decide (c.cls < d.cls) || (c.cls == d.cls && decide (c.order < d.order))

/-- A record joins the queue at its place (R87). -/
def insertClaim (c : Claim) (q : List Claim) : List Claim :=
  match q with
  | [] => [c]
  | d :: rest => if claimBefore c d then c :: d :: rest else d :: insertClaim c rest

/-- A list without a holder's record, with the ranks of the later records closed up (R87: the order is relative). -/
def dropClaim (h : Holder) (order : Nat) (l : List Claim) : List Claim :=
  (l.filter fun c => !(c.holder = h)).map fun c => if order < c.order then { c with order := c.order - 1 } else c

/-- A holder's record is removed, if it has one. -/
def removeClaim (h : Holder) (s : State) : State :=
  match claimOf h s with
  | none => s
  | some c =>
    updSbu (fun b => { b with granted := dropClaim h c.order b.granted, queue := dropClaim h c.order b.queue }) s

/-- Wait limit in force of a class, in ms (R83). -/
def waitLimit (cls : Nat) (s : State) : Nat := s.sbu.balance.waitLimits.toList.getD cls 0 * 1000

/-- A record is created QUEUED, the latest of its class, with its wait timer started (R87, R88, R101). -/
def createClaim (h : Holder) (cls amount : Nat) (s : State) : State :=
  let c : Claim :=
    { holder := h, cls := cls, amount := amount, state := .queued s.now (waitLimit cls s)
      order := (claims s).length + 1 }
  updSbu (fun b => { b with queue := insertClaim c b.queue }) s

/-- Sum of the amounts of the GRANTED records. -/
def grantedAmount (s : State) : Nat := (s.sbu.granted.map (·.amount)).sum

/-- The headroom: demand of the update view, less the granted amounts, less the margin in force (R85). -/
def headroom (s : State) : Int :=
  (s.sbu.view.demand : Int) - (grantedAmount s : Int) - (s.sbu.balance.margin : Int)

/-! ### The shed list (R94) -/

/-- An entry stands before another: by class, then by joining order (R94). -/
def entryBefore (e d : ShedEntry) : Bool := decide (e.cls < d.cls) || (e.cls == d.cls && decide (e.order < d.order))

/-- An entry joins at its place. -/
def insertEntry (e : ShedEntry) (l : List ShedEntry) : List ShedEntry :=
  match l with
  | [] => [e]
  | d :: rest => if entryBefore e d then e :: d :: rest else d :: insertEntry e rest

/-- A feeder's entry joins as the latest of its class (R94). -/
def joinShed (n : Feeder) (reason : ShedReason) (s : State) : State :=
  let e : ShedEntry :=
    { feeder := n, cls := (feeder n s).cls, reason := reason, order := s.sbu.shedList.length + 1 }
  updSbu (fun b => { b with shedList := insertEntry e b.shedList }) s

/-- A list without a feeder's entry, with the ranks of the later entries closed up. -/
def dropEntry (n : Feeder) (l : List ShedEntry) : List ShedEntry :=
  match l.find? fun e => e.feeder = n with
  | none => l
  | some x =>
    (l.filter fun e => !(e.feeder = n)).map fun e => if x.order < e.order then { e with order := e.order - 1 } else e

/-- A feeder's entry leaves the shed list. -/
def leaveShed (n : Feeder) (s : State) : State := updSbu (fun b => { b with shedList := dropEntry n b.shedList }) s

/-- A feeder becomes SHED and its entry joins, in one action (R94, R136). -/
def shedFeeder (n : Feeder) (reason : ShedReason) (s : State) : State :=
  joinShed n reason
    (putFeeder n { idleFeeder (feeder n s) with state := .shed, reason := feederReasonOf reason, reclose := .stopped } s)

/-! ### Restores in progress and reports (R92, R103) -/

/-- The restore of a feeder ends and the restore gap starts (R103). -/
def endRestore (n : Feeder) (s : State) : State :=
  if s.sbu.restoring = some n then
    updSbu (fun b => { b with restoring := none, restoreGap := startTimer (b.balance.restoreGap * 1000) s }) s
  else s

/-- FCU's settled, aborted or withdrawn report about a feeder under restore: its record is removed and its restore
ends (R92, R103). The three do not differ in their effect on SBU. -/
def reportFeeder (n : Feeder) (s : State) : State := endRestore n (removeClaim (.feeder n) s)

/-- SDU's settled, aborted or withdrawn report (R92). -/
def reportSaw (s : State) : State := removeClaim .saw s

/-! ### The BALANCE entry and the ballast update (R83, R86) -/

/-- SBU reads the BALANCE entry (R83). -/
def readBalance (s : State) : State :=
  match readActive .balance 1 s with
  | (.good img, s) => updSbu (fun b => { b with balance := balanceEntry img, degraded := false }) s
  | (_, s) => updSbu (fun b => { b with degraded := true }) s

/-- K shed in force (R83). -/
def kShedOf (b : Sbu) : Nat := if b.degraded then 4 else b.balance.kShed

/-- Shed depth in force, in mHz (R83). -/
def shedDepthOf (b : Sbu) : Nat := if b.degraded then 1000 else b.balance.shedDepth

/-- Shed pause in force, in ms (R83, R100). -/
def shedPauseOf (b : Sbu) : Nat := if b.degraded then 2000 else b.balance.shedPause

/-- The shed conditions (R96). -/
def shedConditions (b : Sbu) : Bool :=
  decide (kShedOf b ≤ b.view.floorHits) &&
  (b.view.freq.any fun f => decide ((f : Int) < (b.view.fSet : Int) - (shedDepthOf b : Int))) &&
  decide (b.shedPause = .stopped)

/-- A shed has been made: SHED is latched, unresolved reported is no, and the shed pause starts (R97, R98, R100). -/
def afterShed (s : State) : State :=
  latch .shed (updSbu (fun b => { b with unresolved := false, shedPause := startTimer (shedPauseOf b) s }) s)

/-- An abandoned restore (R97): the pre-shed load stands and the restore gap is not started. -/
def abandonRestore (n : Feeder) (s : State) : State :=
  afterShed (shedFeeder n .deficit (updSbu (fun b => { b with restoring := none }) (removeClaim (.feeder n) s)))

/-- The better shed candidate of two feeders: the higher class, then the higher number (R98). -/
def worseFeeder (s : State) (best : Option Feeder) (n : Feeder) : Option Feeder :=
  if (feeder n s).state = .on then
    match best with
    | none => some n
    | some m => if (feeder m s).cls ≤ (feeder n s).cls then some n else some m
  else best

/-- The feeder that would be shed (R98). -/
def feederVictim (s : State) : Option Feeder := (List.finRange 12).foldl (worseFeeder s) none

/-- The saw is a candidate in STAR, DELTA and RUN (R98). -/
def sawCandidate (s : State) : Bool :=
  match s.sdu.state with
  | .star => true
  | .delta => true
  | .run => true
  | _ => false

/-- The victim by the tests of R98: highest class, the saw before a feeder of its class, highest feeder number. -/
def victim (s : State) : Option Holder :=
  match feederVictim s with
  | none => if sawCandidate s then some .saw else none
  | some n => if sawCandidate s && decide ((feeder n s).cls ≤ s.sdu.cls) then some .saw else some (.feeder n)

/-- A feeder victim: its pre-shed load is recorded and it is shed (R98, R136). -/
def shedVictimFeeder (n : Feeder) (s : State) : State :=
  afterShed (shedFeeder n .deficit (setFeeder n { feeder n s with preShed := lastPower n s } s))

/-- One load is shed, or the deficit is reported unresolved once (R97, R98, R99). -/
def shedOne (s : State) : State :=
  match s.sbu.restoring with
  | some n => abandonRestore n s
  | none =>
    match victim s with
    | some (.feeder n) => shedVictimFeeder n s
    | some .saw => afterShed (issue .shedOrder (removeClaim .saw s))
    | none =>
      if s.sbu.unresolved then s
      else latch .deficitUnresolved (updSbu (fun b => { b with unresolved := true }) s)

/-- Step 4 of R86. -/
def shedDecision (s : State) : State := if shedConditions s.sbu then shedOne s else s

/-- Conditions 2 to 6 of a grant (R89), for the head of the queue. -/
def grantConditions (c : Claim) (s : State) : Bool :=
  !s.sbu.degraded && decide ((c.amount : Int) ≤ headroom s) && decide (s.sbu.shedPause = .stopped) &&
  (s.sbu.view.freq.any fun f => decide ((s.sbu.view.fSet : Int) - (s.sbu.balance.grantBand : Int) ≤ (f : Int))) &&
  decide (s.sbu.view.state = .tracking)

/-- The GRANTED notice of a holder (R89). -/
def grantedNotice (h : Holder) : Instr :=
  match h with
  | .saw => .sawGranted
  | .feeder n => .feederGranted n

/-- Step 5 of R86: the head of the queue is granted when every condition holds (R89). -/
def grantDecision (s : State) : State :=
  match s.sbu.queue with
  | [] => s
  | c :: rest =>
    if grantConditions c s then
      issue (grantedNotice c.holder)
        (updSbu (fun b => { b with
          queue := rest
          granted := b.granted ++
            [{ c with state := .granted (startTimer (b.balance.holdLimit * 1000) s) }] }) s)
    else s

/-- The voltage view lies within the voltage band of PROTECTION (R101). -/
def voltageInBand (s : State) : Bool :=
  match s.tsu.protection, (View.current { value := s.sbu.voltage, state := s.sbu.voltageSt }) with
  | some p, some v => within p.vLow p.vHigh v
  | _, _ => false

/-- Amount of a restore claim (R102). -/
def restoreAmount (n : Feeder) (s : State) : Nat :=
  let r := feeder n s
  let minClaim := (r.values.map (·.minClaim)).getD 0
  let reduced := (r.values.map (·.reducedLimit)).getD 0
  let base := max r.preShed minClaim
  let amount :=
    match s.eau.tiers[n] with
    | .normal => base
    | .reduced => min base (reduced * s.sbu.voltage.getD 0 / 1000)
  min amount 65535

/-- A restore begins (R101). -/
def beginRestore (n : Feeder) (s : State) : State :=
  let amount := restoreAmount n s
  let s := putFeeder n { feeder n s with state := .restoring, underRestore := true } (leaveShed n s)
  updSbu (fun b => { b with restoring := some n, unresolved := false })
    (createClaim (.feeder n) (feeder n s).cls amount s)

/-- Conditions 2 to 5 of a restore (R101). -/
def restoreConditions (s : State) : Bool :=
  s.sbu.restoring.isNone && !s.sbu.degraded && decide (s.sbu.shedPause = .stopped) &&
  decide (s.sbu.restoreGap = .stopped) && voltageInBand s

/-- Step 6 of R86. -/
def restoreDecision (s : State) : State :=
  match s.sbu.shedList with
  | [] => s
  | e :: _ => if restoreConditions s then beginRestore e.feeder s else s

/-- Step 2 of R86. -/
def copyUpdate (u : BallastUpdate) (s : State) : State :=
  updSbu (fun b => { b with
    view := { demand := u.demand, capacity := u.capacity, state := u.state, freq := u.freq, fSet := u.fSet,
              floorHits := u.floorHits } }) s

/-- SBU handles a ballast update (R86). -/
def sbuBallastUpdate (u : BallastUpdate) (s : State) : State :=
  let s := copyUpdate u (readBalance (takePending .balance s))
  if inRun s then restoreDecision (grantDecision (shedDecision s)) else s

/-- SBU copies LINE-VOLTAGE of a set, value and state (R84). -/
def sbuSampleSet (set : SampleSet) (s : State) : State :=
  let v := setView set .lineVoltage 0
  updSbu (fun b => { b with voltage := v.value, voltageSt := v.state }) s

/-! ### Claims, timers and notices -/

/-- SBU judges the saw's claim request (R88). -/
def sawClaimRequest (amount cls : Nat) (s : State) : State :=
  if s.sdu.state = .queued then
    if inRun s then
      match claimOf .saw s with
      | some _ => issue (.sawClaimAnswer .duplicate) s
      | none => issue (.sawClaimAnswer .accepted) (createClaim .saw cls amount s)
    else issue (.sawClaimAnswer .notRun) s
  else s

/-- A QUEUED record is removed at its wait limit and its holder answered NO-HEADROOM (R90). R90 gives the effect for a
feeder in RESTORING; one that an overtaken GRANTED notice has taken to CLOSING or ON keeps its state and its restore, and
only the record goes (log 57). -/
def noHeadroomRemoval (h : Holder) (s : State) : State :=
  let s := removeClaim h s
  match h with
  | .saw => latch .sawNoHeadroom (issue .noHeadroom s)
  | .feeder n => if (feeder n s).state = .restoring then endRestore n (shedFeeder n .request s) else s

/-- The wait timer of a QUEUED record expires (R90). -/
def waitTimerExpiry (h : Holder) (s : State) : State :=
  match (claimOf h s).map Claim.state with
  | some (.queued since limit) => noHeadroomRemoval h (advanceTo (since + limit * 1000) s)
  | _ => s

/-- The hold timer of a GRANTED record expires (R91). -/
def holdTimerExpiry (h : Holder) (s : State) : State :=
  match (claimOf h s).map Claim.state with
  | some (.granted (.running d)) => removeClaim h (advanceTo d s)
  | _ => s

/-- The record of a claim under a new class: a QUEUED record's wait limit follows the class (R93). -/
def reclassClaim (cls : Nat) (s : State) (c : Claim) : Claim :=
  match c.state with
  | .queued since _ => { c with cls := cls, state := .queued since (waitLimit cls s) }
  | .granted _ => { c with cls := cls }

/-- A class notice re-sorts the claim (R93). -/
def reclassHolder (h : Holder) (cls : Nat) (s : State) : State :=
  match s.sbu.queue.find? fun c => c.holder = h with
  | some c =>
    let c := reclassClaim cls s c
    let s := updSbu (fun b => { b with
      queue := insertClaim c (b.queue.filter fun d => !(d.holder = h)) }) s
    match c.state with
    | .queued since limit => if since + limit * 1000 ≤ s.now then noHeadroomRemoval h s else s
    | .granted _ => s
  | none =>
    updSbu (fun b => { b with
      granted := b.granted.map fun c => if c.holder = h then reclassClaim cls s c else c }) s

/-- A class notice re-sorts the shed list entry (R93, R94). -/
def reclassEntry (n : Feeder) (cls : Nat) (s : State) : State :=
  match s.sbu.shedList.find? fun e => e.feeder = n with
  | none => s
  | some e =>
    updSbu (fun b => { b with
      shedList := insertEntry { e with cls := cls } (b.shedList.filter fun d => !(d.feeder = n)) }) s

/-- SBU takes a class notice (R93). -/
def sbuClassNotice (h : Holder) (cls : Nat) (s : State) : State :=
  match h with
  | .saw => reclassHolder .saw cls s
  | .feeder n => reclassHolder (.feeder n) cls (reclassEntry n cls s)

/-- The shed pause timer expires (R100). -/
def shedPauseTimerExpiry (s : State) : State :=
  match s.sbu.shedPause with
  | .stopped => s
  | .running d => updSbu (fun b => { b with shedPause := .stopped }) (advanceTo d s)

/-- The restore gap timer expires (R103). -/
def restoreGapTimerExpiry (s : State) : State :=
  match s.sbu.restoreGap with
  | .stopped => s
  | .running d => updSbu (fun b => { b with restoreGap := .stopped }) (advanceTo d s)

/-- A change out of RUN, into STOPPING or TRIPPED; any other has none of its effects, a trip from another mode among them
(R104, R122, R144; log 22). -/
def leavesRun (old new : PlantMode) : Bool := old = .run && (new = .stopping || new = .tripped)

/-- A feeder goes OFF for the plant (R144): every one but a LOCKED one, so that a feeder already OFF takes the reason too
(log 22). -/
def feederPlantOff (n : Feeder) (s : State) : State :=
  let r := feeder n s
  match r.state with
  | .locked => s
  | _ => putFeeder n { idleFeeder r with state := .off, reason := .plant, reclose := .stopped } s

/-- A feeder in SHED goes OFF as its entry leaves (R104). -/
def shedToOff (n : Feeder) (s : State) : State := if (feeder n s).state = .shed then feederPlantOff n s else s

/-- SBU takes a mode notice (R104). -/
def sbuModeNotice (old new : PlantMode) (s : State) : State :=
  if leavesRun old new then
    let s := s.sbu.shedList.foldl (fun s e => shedToOff e.feeder s) s
    updSbu (fun b => { b with
      shedList := [], granted := [], queue := [], restoring := none, shedPause := .stopped, restoreGap := .stopped
      unresolved := false }) s
  else s

/-! ### Meanings -/

/-- SBU_BALLAST_UPDATE (R86). -/
def execSbuBallastUpdate (update : BallastUpdate) (s : State) : Host.Outcome State Fault Refusal :=
  .next (powered s (sbuBallastUpdate update (take (.sbuBallastUpdate update) s)))

/-- SBU_SAMPLE_SET (R84). -/
def execSbuSampleSet (set : SampleSet) (s : State) : Host.Outcome State Fault Refusal :=
  .next (powered s (sbuSampleSet set (take (.sbuSampleSet set) s)))

/-- SAW_CLAIM_REQUEST (R88). -/
def execSawClaimRequest (amount cls : Nat) (s : State) : Host.Outcome State Fault Refusal :=
  .next (powered s (sawClaimRequest amount cls (take (.sawClaimRequest amount cls) s)))

/-- WAIT_TIMER_EXPIRY (R90). -/
def execWaitTimerExpiry (holder : Holder) (s : State) : Host.Outcome State Fault Refusal :=
  .next (powered s (waitTimerExpiry holder s))

/-- HOLD_TIMER_EXPIRY (R91). -/
def execHoldTimerExpiry (holder : Holder) (s : State) : Host.Outcome State Fault Refusal :=
  .next (powered s (holdTimerExpiry holder s))

/-- SBU_CLASS_NOTICE (R93). -/
def execSbuClassNotice (holder : Holder) (cls : Nat) (s : State) : Host.Outcome State Fault Refusal :=
  .next (powered s (sbuClassNotice holder cls (take (.sbuClassNotice holder cls) s)))

/-- SHED_PAUSE_TIMER_EXPIRY (R100). -/
def execShedPauseTimerExpiry (s : State) : Host.Outcome State Fault Refusal :=
  .next (powered s (shedPauseTimerExpiry s))

/-- RESTORE_GAP_TIMER_EXPIRY (R103). -/
def execRestoreGapTimerExpiry (s : State) : Host.Outcome State Fault Refusal :=
  .next (powered s (restoreGapTimerExpiry s))

/-- SBU_MODE_NOTICE (R104). -/
def execSbuModeNotice (old new : PlantMode) (s : State) : Host.Outcome State Fault Refusal :=
  .next (powered s (sbuModeNotice old new (take (.sbuModeNotice old new) s)))

end Sys2Proof.Machine
end

