-- ==== Sys2Proof/Machine/Saw.lean ====
section
/-! DEFINITION. Saw Drive Unit: starting, the star-delta sequence, supervision, stopping, the permissive chain, ring
loss, class and lockout, and the feed derate (spec/06, R106 to R126). -/

namespace Sys2Proof.Machine

/-- Changes SDU's record. -/
def updSdu (f : Sdu → Sdu) (s : State) : State := { s with sdu := f s.sdu }

/-! ### Commands -/

/-- FEED-COMMAND is written (R106, R125). -/
def writeFeed (v : Nat) (s : State) : State :=
  updHolding (fun h => { h with feed := some v }) (updSdu (fun d => { d with feed := v }) s)

/-- The confirm watch timer started for 1,000 ms (R113). -/
def confirmStart (s : State) : HeldTimer := .running (deadlineIn Config.watch s)

/-- SAW-CONTACTOR-CMD is written; a write that changes the command value starts the confirm watch (R113). -/
def writeContactor (c : Contactor) (s : State) : State :=
  if s.sdu.contactor = c then s
  else
    updHolding (fun h => { h with sawContactor := contactorValue c })
      (updSdu (fun d => { d with contactor := c, confirm := .pending, confirmTimer := confirmStart s }) s)

/-- A running timer with its remaining time kept. -/
def suspendTimer (t : HeldTimer) (s : State) : HeldTimer :=
  match t with
  | .running d => .suspended (d - s.now) false
  | .frozen r => .suspended r true
  | _ => t

/-- A running timer frozen with its remaining time (R114, R138). -/
def freezeTimer (t : HeldTimer) (s : State) : HeldTimer :=
  match t with
  | .running d => .frozen (d - s.now)
  | _ => t

/-- A suspended timer back in the condition it had (R113, R143). -/
def resumeTimer (t : HeldTimer) (s : State) : HeldTimer :=
  match t with
  | .suspended r true => .frozen r
  | .suspended r false => .running (s.now + r)
  | _ => t

/-- A timer that supervises a limit: started if stopped, resumed if frozen, left running (R114, R138). -/
def runTimer (t : HeldTimer) (ms : Nat) (s : State) : HeldTimer :=
  match t with
  | .stopped => .running (deadlineIn ms s)
  | .frozen r => .running (s.now + r)
  | _ => t

/-- The contactor command withdrawn while the ring check is pending; the confirm watch is suspended (R113, R120, R121).
The withdrawal is no new command value: it leaves the watch's state as it is and starts no timer (log 56). -/
def withdrawContactor (s : State) : State :=
  updHolding (fun h => { h with sawContactor := none })
    (updSdu (fun d => { d with contactor := .withdrawn, confirmTimer := suspendTimer d.confirmTimer s }) s)

/-! ### Entries to states -/

/-- STAR or DELTA. -/
def starOrDelta (x : SawState) : Bool := x = .star || x = .delta

/-- STAR, DELTA or RUN: the motor is commanded on. -/
def motorOn (x : SawState) : Bool := starOrDelta x || x = .run

/-- Contactor OFF and feed 0 are written (R115, R117, R118, R122). -/
def commandOff (s : State) : State := writeFeed 0 (writeContactor .off s)

/-- The saw enters FAULT (R115). Its claim record leaves from QUEUED, STAR and DELTA: aborted and withdrawn reports have
the same effect on the list (R92). -/
def sawFault (reason : SawReason) (s : State) : State :=
  let s := if starOrDelta s.sdu.state ∨ s.sdu.state = .queued then reportSaw s else s
  let s := updSdu (fun d => { d with
    state := .fault, reason := reason, starTimer := .stopped, deltaTimer := .stopped, rundownTimer := .stopped
    stallTimer := .stopped, ringCheck := false }) s
  latch .sawFault (commandOff s)

/-- Rundown time in force, in ms. -/
def rundownMs (d : Sdu) : Nat := ((d.values.map (·.rundownTime)).getD 0) * 1000

/-- The saw enters RUNDOWN (R117). -/
def sawRundown (reason : SawReason) (s : State) : State :=
  let s := updSdu (fun d => { d with
    state := .rundown, reason := reason, starTimer := .stopped, deltaTimer := .stopped, stallTimer := .stopped
    ringCheck := false, rundownTimer := startTimer (rundownMs d) s }) s
  commandOff s

/-- The effect of a SAW read on the values in force and the entry state (R108). -/
def recordSawRead (r : ReadResult) (s : State) : State :=
  match r with
  | .good img => updSdu (fun d => { d with values := some (sawEntry img), entryState := .good }) s
  | _ => updSdu (fun d => { d with entryState := readStatus r }) s

/-- The saw enters STOPPED: a pending SAW swap is taken and the entry read (R108). -/
def takeSawSwap (s : State) : State :=
  if (table .saw s).pending then
    let (r, s) := readActive .saw 1 (takeSwap .saw s)
    recordSawRead r s
  else s

/-- The saw enters STOPPED with a reason (R108). -/
def sawStopped (reason : SawReason) (s : State) : State :=
  takeSawSwap (updSdu (fun d => { d with state := .stopped, reason := reason }) s)

/-- A saw is brought down by a read that is not GOOD (R108). -/
def sawEntryLost (s : State) : State :=
  match s.sdu.state with
  | .queued => sawStopped .plant (reportSaw s)
  | .star => sawRundown .plant (reportSaw s)
  | .delta => sawRundown .plant (reportSaw s)
  | .run => sawRundown .plant s
  | _ => s

/-- SDU's read at a sample set or start request, taking a pending swap first while STOPPED (R108). -/
def readSaw (s : State) : ReadResult × State :=
  let s := if s.sdu.state = .stopped then takePending .saw s else s
  let (r, s) := readActive .saw 1 s
  let s := recordSawRead r s
  match r with
  | .good _ => (r, s)
  | _ => (r, sawEntryLost s)

/-! ### Starts and stops -/

/-- The tests of a start request after the read (R109): the status of the first that fails, or DONE. -/
def startStatus (r : ReadResult) (s : State) : Status :=
  match r with
  | .empty => .absent
  | .damaged => .damaged
  | .good img =>
    if (sawEntry img).present then
      if s.sdu.state = .stopped then
        if inRun s ∧ s.sdu.lockout = false ∧ s.sdu.permissive = .closed then .done else .refusedMode
      else .busy
    else .absent

/-- A start is taken: QUEUED with reason NONE, and SBU is asked for the claim (R109). -/
def takeStart (s : State) : State :=
  let surge := (s.sdu.values.map (·.surge)).getD 0
  issue (.sawClaimRequest surge s.sdu.cls) (updSdu (fun d => { d with state := .queued, reason := .none }) s)

/-- SDU judges a start request (R109): its status, and the state after it. -/
def judgeSawStart (s : State) : Status × State :=
  let (r, s) := readSaw s
  let status := startStatus r s
  (status, if status = .done then takeStart s else s)

/-- SDU takes a stop (R116). -/
def sawStop (s : State) : State :=
  match s.sdu.state with
  | .queued => sawStopped .stop (reportSaw s)
  | .star => sawRundown .stop (reportSaw s)
  | .delta => sawRundown .stop (reportSaw s)
  | .run => sawRundown .stop s
  | _ => s

/-- A management CLEAR (R119), which leaves the confirm watch as it stands: its status, and the state after it. -/
def sawClear (s : State) : Status × State :=
  if s.sdu.state = .fault then
    if s.sdu.permissive = .closed then (.done, sawStopped s.sdu.reason s) else (.busy, s)
  else (.done, s)

/-! ### The star-delta sequence (R111, R112) -/

/-- SBU's answer to a claim request (R111). -/
def sawClaimAnswer (a : ClaimAnswer) (s : State) : State :=
  match a with
  | .notRun => if s.sdu.state = .queued then sawStopped .plant (reportSaw s) else s
  | .accepted => s
  | .duplicate => s

/-- A GRANTED notice (R112). -/
def sawGranted (s : State) : State :=
  if s.sdu.state = .queued then
    let ms := ((s.sdu.values.map (·.starTime)).getD 0) * 1000
    writeContactor .star
      (updSdu (fun d => { d with state := .star, starTimer := startTimer ms s, stallTimer := .stopped }) s)
  else s

/-- The star timer expires (R112). -/
def starTimerExpiry (s : State) : State :=
  match s.sdu.starTimer with
  | .stopped => s
  | .running t =>
    let s := updSdu (fun d => { d with starTimer := .stopped }) (advanceTo t s)
    if s.sdu.state = .star then
      let ms := (s.sdu.values.map (·.deltaSettle)).getD 0
      writeContactor .delta
        (updSdu (fun d => { d with state := .delta, deltaTimer := startTimer ms s, stallTimer := .stopped }) s)
    else s

/-- The delta settle timer expires: RUN, and settled is reported in the same action (R112). -/
def deltaSettleTimerExpiry (s : State) : State :=
  match s.sdu.deltaTimer with
  | .stopped => s
  | .running t =>
    let s := updSdu (fun d => { d with deltaTimer := .stopped }) (advanceTo t s)
    if s.sdu.state = .delta then reportSaw (updSdu (fun d => { d with state := .run }) s) else s

/-- The confirm watch expires while PENDING (R113). -/
def confirmExpired (s : State) : State :=
  let s := updSdu (fun d => { d with confirm := .failed }) s
  match s.sdu.state with
  | .fault => latch .sawFault (updSdu (fun d => { d with reason := .noConfirm }) s)
  | _ => sawFault .noConfirm s

/-- The confirm timer expires (R113). -/
def confirmTimerExpiry (s : State) : State :=
  match s.sdu.confirmTimer with
  | .running t =>
    let s := updSdu (fun d => { d with confirmTimer := .stopped }) (advanceTo t s)
    if s.sdu.confirm = .pending then confirmExpired s else s
  | _ => s

/-- The stall timer expires while running (R114). -/
def stallTimerExpiry (s : State) : State :=
  match s.sdu.stallTimer with
  | .running t =>
    let s := updSdu (fun d => { d with stallTimer := .stopped }) (advanceTo t s)
    if motorOn s.sdu.state then sawFault .stall s else s
  | _ => s

/-- The rundown timer expires (R117): STOPPED, the reason unchanged. -/
def rundownTimerExpiry (s : State) : State :=
  match s.sdu.rundownTimer with
  | .stopped => s
  | .running t =>
    let s := updSdu (fun d => { d with rundownTimer := .stopped }) (advanceTo t s)
    if s.sdu.state = .rundown then sawStopped s.sdu.reason s else s

/-! ### The sample set -/

/-- SAW-BUTTON of a set against the last button value (R110). -/
def readButton (v : Option Nat) (s : State) : State :=
  match v with
  | none => updSdu (fun d => { d with button := .unknown }) s
  | some 1 =>
    let press := s.sdu.button = .released
    let s := updSdu (fun d => { d with button := .start }) s
    if press then (judgeSawStart s).2 else s
  | some 2 => sawStop (updSdu (fun d => { d with button := .stop }) s)
  | some _ => updSdu (fun d => { d with button := .released }) s

/-- The ring check at the first set that finds it pending (R121). -/
def resolveRingCheck (v : Option Nat) (s : State) : State :=
  if s.sdu.ringCheck then
    if v = some 2 then
      updHolding (fun h => { h with sawContactor := contactorValue .delta })
        (updSdu (fun d => { d with
          ringCheck := false, contactor := .delta, confirm := .confirmed, confirmTimer := .stopped }) s)
    else sawRundown .ring s
  else s

/-- A reading that differs is compared afresh: while the watch is CONFIRMED, and while it is FAILED after a CLEAR has
taken the saw out of the FAULT that its expiry brought (R113, R119, log 34). -/
def comparesAfresh (d : Sdu) : Bool := d.confirm = .confirmed || (d.confirm = .failed && d.state ≠ .fault)

/-- The confirm watch at a set: a suspended timer is resumed, then SAW-CONTACTOR is compared with the command (R113). -/
def watchContactor (v : Option Nat) (s : State) : State :=
  let s := updSdu (fun d => { d with confirmTimer := resumeTimer d.confirmTimer s }) s
  match v with
  | none => s
  | some x =>
    if contactorValue s.sdu.contactor = some x then
      match s.sdu.confirm with
      | .confirmed => s
      | _ => updSdu (fun d => { d with confirm := .confirmed, confirmTimer := .stopped }) s
    else if comparesAfresh s.sdu then updSdu (fun d => { d with confirm := .pending, confirmTimer := confirmStart s }) s
    else s

/-- The limit current of the state (R114). -/
def limitCurrent (x : SawState) (v : SawValues) : Nat := if x = .star then v.startCurrent else v.stallCurrent

/-- Supervision of the saw current (R114). -/
def watchCurrent (i : Option Nat) (s : State) : State :=
  if motorOn s.sdu.state then
    match s.sdu.values, i with
    | some v, some x =>
      if v.tripCurrent ≤ x then sawFault .overcurrent s
      else if limitCurrent s.sdu.state v ≤ x then
        updSdu (fun d => { d with stallTimer := runTimer d.stallTimer v.stallTime s }) s
      else updSdu (fun d => { d with stallTimer := .stopped }) s
    | _, _ => updSdu (fun d => { d with stallTimer := freezeTimer d.stallTimer s }) s
  else updSdu (fun d => { d with stallTimer := .stopped }) s

/-- factor_f (R125). -/
def factorF (v : SawValues) (fSet : Nat) (f : Option Nat) : Nat :=
  match f with
  | none => 0
  | some f =>
    if fSet ≤ f + v.d1 then 1000
    else if f + v.d2 ≤ fSet then 0
    else 1000 * (f + v.d2 - fSet) / (v.d2 - v.d1)

/-- factor_i (R125). -/
def factorI (v : SawValues) (i : Option Nat) : Nat :=
  match i with
  | none => 0
  | some i =>
    if i ≤ v.iLabour then 1000
    else if v.iStall ≤ i then 0
    else 1000 * (v.iStall - i) / (v.iStall - v.iLabour)

/-- The feed command at a set (R125). -/
def computeFeed (setpoint freq current : Option Nat) (s : State) : State :=
  match s.sdu.values with
  | some v =>
    if s.sdu.state = .run ∧ s.sdu.ringCheck = false ∧ s.sdu.permissive = .closed then
      let ff := factorF v s.sdu.fSetView freq
      let fi := factorI v current
      updSdu (fun d => { d with factorF := some ff, factorI := some fi })
        (writeFeed (setpoint.getD 0 * min ff fi / 1000) s)
    else updSdu (fun d => { d with factorF := none, factorI := none }) (writeFeed 0 s)
  | none => updSdu (fun d => { d with factorF := none, factorI := none }) (writeFeed 0 s)

/-- SDU takes a sample set: entry, button, ring check, contactor, current, feed, in that order (R108, R110, R113,
R114, R121, R125; log 23). -/
def sduSampleSet (set : SampleSet) (s : State) : State :=
  let current := fun k => (setView set k 0).current
  let s := readButton (current .sawButton) (readSaw s).2
  let s := watchContactor (current .sawContactor) (resolveRingCheck (current .sawContactor) s)
  computeFeed (current .feedSetpoint) (setFrequency set).2 (current .sawCurrent)
    (watchCurrent (current .sawCurrent) s)

/-! ### Permissive, ring, mode and SBU -/

/-- The permissive input changes (R118). -/
def permissiveChange (level : Permissive) (s : State) : State :=
  let changed := s.sdu.permissive ≠ level
  let s := updSdu (fun d => { d with permissive := level }) { s with permissivePin := level }
  if changed ∧ level = .opened then
    let s := commandOff s
    match s.sdu.state with
    | .queued => sawStopped .permissive (reportSaw s)
    | .star => sawFault .permissive s
    | .delta => sawFault .permissive s
    | .run => sawFault .permissive s
    | _ => s
  else s

/-- The ring-down announcement at SDU (R120). -/
def sduRingDown (s : State) : State :=
  let s :=
    match s.sdu.state with
    | .star => sawFault .ring s
    | .delta => sawFault .ring s
    | .run => writeFeed 0 (withdrawContactor (updSdu (fun d => { d with ringCheck := true }) s))
    | _ => s
  updSdu (fun d => { d with
    confirmTimer := suspendTimer d.confirmTimer s
    stallTimer := freezeTimer d.stallTimer s }) s

/-- A shed order (R123). A record of a later start, where the order has been overtaken, leaves with the state (R87). -/
def shedOrder (s : State) : State := if motorOn s.sdu.state then sawRundown .shed (reportSaw s) else s

/-- A NO-HEADROOM answer (R123). A record of a later start, where the answer has been overtaken, leaves with the state
(R87). -/
def noHeadroom (s : State) : State := if s.sdu.state = .queued then sawStopped .noHeadroom (reportSaw s) else s

/-- The reason that a change out of RUN gives (R122). -/
def planReason (new : PlantMode) : SawReason := if new = .tripped then .trip else .plant

/-- SDU takes a mode notice (R122); SBU removes the saw's record in the same action. -/
def sduModeNotice (old new : PlantMode) (s : State) : State :=
  if leavesRun old new then
    let s := commandOff (reportSaw s)
    match s.sdu.state with
    | .queued => sawStopped (planReason new) s
    | .star => sawRundown (planReason new) s
    | .delta => sawRundown (planReason new) s
    | .run => sawRundown (planReason new) s
    | _ => s
  else s

/-- A SAW-CLASS action (R124). -/
def sawClassAction (cls : Nat) (s : State) : State :=
  if s.sdu.cls = cls then s else issue (.sbuClassNotice .saw cls) (updSdu (fun d => { d with cls := cls }) s)

/-! ### Meanings -/

/-- SDU_SAMPLE_SET (R110). -/
def execSduSampleSet (set : SampleSet) (s : State) : Host.Outcome State Fault Refusal :=
  .next (powered s (sduSampleSet set (take (.sduSampleSet set) s)))

/-- SAW_START (R109). -/
def execSawStart (s : State) : Host.Outcome State Fault Refusal :=
  let r := judgeSawStart (take .sawStart s)
  .next (powered s (answer r.1 [] r.2))

/-- SAW_STOP (R116); every state answers DONE. -/
def execSawStop (s : State) : Host.Outcome State Fault Refusal :=
  .next (powered s (answer .done [] (sawStop (take .sawStop s))))

/-- SAW_CLEAR (R119). -/
def execSawClear (s : State) : Host.Outcome State Fault Refusal :=
  let r := sawClear (take .sawClear s)
  .next (powered s (answer r.1 [] r.2))

/-- SAW_CLAIM_ANSWER (R111). -/
def execSawClaimAnswer (answer : ClaimAnswer) (s : State) : Host.Outcome State Fault Refusal :=
  .next (powered s (sawClaimAnswer answer (take (.sawClaimAnswer answer) s)))

/-- SAW_GRANTED (R112). -/
def execSawGranted (s : State) : Host.Outcome State Fault Refusal := .next (powered s (sawGranted (take .sawGranted s)))

/-- STAR_TIMER_EXPIRY (R112). -/
def execStarTimerExpiry (s : State) : Host.Outcome State Fault Refusal := .next (powered s (starTimerExpiry s))

/-- DELTA_SETTLE_TIMER_EXPIRY (R112). -/
def execDeltaSettleTimerExpiry (s : State) : Host.Outcome State Fault Refusal :=
  .next (powered s (deltaSettleTimerExpiry s))

/-- CONFIRM_TIMER_EXPIRY (R113). -/
def execConfirmTimerExpiry (s : State) : Host.Outcome State Fault Refusal := .next (powered s (confirmTimerExpiry s))

/-- STALL_TIMER_EXPIRY (R114). -/
def execStallTimerExpiry (s : State) : Host.Outcome State Fault Refusal := .next (powered s (stallTimerExpiry s))

/-- RUNDOWN_TIMER_EXPIRY (R117). -/
def execRundownTimerExpiry (s : State) : Host.Outcome State Fault Refusal := .next (powered s (rundownTimerExpiry s))

/-- PERMISSIVE_CHANGE (R118). With the main supply absent the level is recorded for the next start (R106). -/
def execPermissiveChange (level : Permissive) (s : State) : Host.Outcome State Fault Refusal :=
  .next (if s.mainPresent then permissiveChange level s else { s with permissivePin := level })

/-- SDU_RING_DOWN (R120). -/
def execSduRingDown (s : State) : Host.Outcome State Fault Refusal := .next (powered s (sduRingDown (take .sduRingDown s)))

/-- SHED_ORDER (R123). -/
def execShedOrder (s : State) : Host.Outcome State Fault Refusal := .next (powered s (shedOrder (take .shedOrder s)))

/-- NO_HEADROOM (R123). -/
def execNoHeadroom (s : State) : Host.Outcome State Fault Refusal := .next (powered s (noHeadroom (take .noHeadroom s)))

/-- SDU_MODE_NOTICE (R122). -/
def execSduModeNotice (old new : PlantMode) (s : State) : Host.Outcome State Fault Refusal :=
  .next (powered s (sduModeNotice old new (take (.sduModeNotice old new) s)))

/-- SDU_BALLAST_UPDATE (R38): SDU takes f_set in force alone. -/
def execSduBallastUpdate (update : BallastUpdate) (s : State) : Host.Outcome State Fault Refusal :=
  .next (powered s (updSdu (fun d => { d with fSetView := update.fSet }) (take (.sduBallastUpdate update) s)))

/-- SAW_CLASS (R124). -/
def execSawClass (cls : Nat) (s : State) : Host.Outcome State Fault Refusal :=
  .next (powered s (sawClassAction cls (take (.sawClass cls) s)))

/-- SAW_LOCKOUT (R124). -/
def execSawLockout (on : Bool) (s : State) : Host.Outcome State Fault Refusal :=
  .next (powered s (updSdu (fun d => { d with lockout := on }) (take (.sawLockout on) s)))

end Sys2Proof.Machine
end

