-- ==== Sys2Proof/Machine/Feeders.lean ====
section
/-! DEFINITION. Feeder Control Unit: desired state, joining and restoring, supervision, trips and lockout, over-voltage,
tiers, ring loss and plant mode (spec/07, R127 to R145). -/

namespace Sys2Proof.Machine

/-! ### Servability, joins and the exit path (R129, R131, R133) -/

/-- Whether the values in force have present yes. -/
def feederPresent (r : FeederRecord) : Bool := r.values.any (·.present)

/-- In the REDUCED tier with a reduced limit of 0 (R129, R142). -/
def unservedTier (r : FeederRecord) : Bool := r.tier = .reduced && r.values.any fun v => v.reducedLimit == 0

/-- A feeder is servable (R129). -/
def servable (r : FeederRecord) : Bool := r.entryState = .good && feederPresent r && !unservedTier r

/-- The reason with which a feeder that is not servable goes OFF (R129, R140, R142). -/
def unservableReason (r : FeederRecord) : FeederReason :=
  if r.entryState = .good ∧ feederPresent r = true then .allowance else .table

/-- A feeder joins the shed list, or is refused outside RUN and goes OFF with reason PLANT (R95, R133). -/
def joinFeeder (n : Feeder) (reason : ShedReason) (s : State) : State :=
  if inRun s then shedFeeder n reason s
  else putFeeder n { idleFeeder (feeder n s) with state := .off, reason := .plant, reclose := .stopped } s

/-- A feeder OFF with a reason, its timers stopped (R131). -/
def feederOff (n : Feeder) (reason : FeederReason) (s : State) : State :=
  putFeeder n { idleFeeder (feeder n s) with state := .off, reason := reason, reclose := .stopped } s

/-- The exit path to OFF (R129, R131): out of the shed list, or with a withdrawn report for a restore. -/
def exitOff (n : Feeder) (reason : FeederReason) (s : State) : State :=
  match (feeder n s).state with
  | .off => s
  | .locked => s
  | .shed => feederOff n reason (leaveShed n s)
  | .restoring => feederOff n reason (reportFeeder n s)
  | .closing => feederOff n reason (reportFeeder n s)
  | .on => feederOff n reason (if (feeder n s).underRestore then reportFeeder n s else s)
  | .tripped => feederOff n reason s

/-- A feeder that is OFF, wanted and servable in RUN joins (R129, R131, R132, R142). -/
def joinIfWanted (n : Feeder) (s : State) : State :=
  let r := feeder n s
  if r.state = .off ∧ r.desired = true ∧ servable r = true ∧ inRun s = true then joinFeeder n .request s else s

/-! ### Desired state and CLEAR (R131, R132, R145) -/

/-- WANT-ON (R131). -/
def wantOn (n : Feeder) (s : State) : State := joinIfWanted n (setFeeder n { feeder n s with desired := true } s)

/-- WANT-OFF (R131). A feeder that is OFF takes the reason DESIRED-OFF whatever its entry's status, DAMAGED included
(log 46). -/
def wantOff (n : Feeder) (s : State) : State :=
  let s := setFeeder n { feeder n s with desired := false } s
  match (feeder n s).state with
  | .off => setFeeder n { feeder n s with reason := .desiredOff } s
  | _ => exitOff n .desiredOff s

/-- CLEAR (R132). -/
def clearFeeder (n : Feeder) (s : State) : State :=
  if (feeder n s).state = .locked then
    joinIfWanted n (putFeeder n { feeder n s with state := .off, reason := .none } s)
  else s

/-- The feeder of a number 1 to 12 (R145). -/
def feederOfNumber (w : Word) : Option Feeder :=
  if h : 1 ≤ w.toNat ∧ w.toNat ≤ 12 then some ⟨w.toNat - 1, by omega⟩ else none

/-- A FEEDER request's item is absent: its entry EMPTY, or GOOD with present no (R145, R168). -/
def feederAbsent (r : FeederRecord) : Bool :=
  match r.entryState with
  | .empty => true
  | .good => !feederPresent r
  | .damaged => false

/-- FCU judges a FEEDER request when it takes it (R145): its status, and the state after it. -/
def judgeFeeder (number : Word) (act : Feeder → State → State) (s : State) : Status × State :=
  match feederOfNumber number with
  | none => (.badArgument, s)
  | some n => if feederAbsent (feeder n s) then (.absent, s) else (.done, act n s)

/-- A FEEDER request of management is judged and answered (R145). -/
def feederRequest (number : Word) (act : Feeder → State → State) (s : State) : State :=
  let r := judgeFeeder number act s
  answer r.1 [] r.2

/-- A schedule action is judged as the same request from management (R167), and not answered. -/
def feederAction (number : Word) (act : Feeder → State → State) (s : State) : State := (judgeFeeder number act s).2

/-- A want from management or from the schedule (R131). -/
def feederWant (origin : Origin) (number : Word) (act : Feeder → State → State) (s : State) : State :=
  match origin with
  | .management => feederRequest number act s
  | .schedule => feederAction number act s

/-! ### Grants, confirms and trips (R134, R135, R137 to R140) -/

/-- A breaker watch started for 1,000 ms; while the ring is DOWN it is suspended (R134, R143, log 25). -/
def watchStart (s : State) : HeldTimer :=
  match s.rif.ring with
  | .up => .running (deadlineIn Config.watch s)
  | .down => .suspended (Config.watch * 1000) false

/-- A GRANTED notice (R134). -/
def feederGranted (n : Feeder) (s : State) : State :=
  if (feeder n s).state = .restoring then
    putFeeder n { feeder n s with state := .closing, watch := watchStart s } s
  else s

/-- A feeder goes LOCKED: its breaker would not close (R134). -/
def lockBreaker (n : Feeder) (s : State) : State :=
  let s := putFeeder n { idleFeeder (feeder n s) with state := .locked, reason := .breaker } s
  latch .feederLocked (reportFeeder n s)

/-- The previous trip lies within the lockout window in force (R139 step 5). -/
def withinLockout (r : FeederRecord) (now : Nat) : Bool :=
  r.lastTrip.any fun t => decide (now - t < (r.values.map (·.lockoutWindow)).getD 0 * 60000000)

/-- A trip of an ON feeder (R139). -/
def feederTrip (n : Feeder) (reason : FeederReason) (s : State) : State :=
  let r := feeder n s
  let power := lastPower n s
  let s := latch .feederTripped (if r.underRestore then reportFeeder n s else s)
  let r' := { idleFeeder r with preShed := power, reason := reason, lastTrip := some s.now }
  if withinLockout r s.now then latch .feederLocked (putFeeder n { r' with state := .locked } s)
  else
    putFeeder n
      { r' with
        state := .tripped, reclose := startTimer ((r.values.map (·.recloseDelay)).getD 0 * 1000) s } s

/-- The breaker watch expires (R134, R137). -/
def breakerWatchTimerExpiry (n : Feeder) (s : State) : State :=
  match (feeder n s).watch with
  | .running d =>
    let s := advanceTo d s
    let s := setFeeder n { feeder n s with watch := .stopped } s
    match (feeder n s).state with
    | .closing => lockBreaker n s
    | .on => feederTrip n .mismatch s
    | _ => s
  | _ => s

/-- The settle timer expires (R135). -/
def settleTimerExpiry (n : Feeder) (s : State) : State :=
  match (feeder n s).settle with
  | .stopped => s
  | .running d =>
    let s := advanceTo d s
    let r := feeder n s
    if r.state = .on then reportFeeder n (setFeeder n { r with settle := .stopped, underRestore := false } s)
    else setFeeder n { r with settle := .stopped } s

/-- The trip timer expires while running (R138). -/
def tripTimerExpiry (n : Feeder) (s : State) : State :=
  match (feeder n s).trip with
  | .running d =>
    let s := advanceTo d s
    let s := setFeeder n { feeder n s with trip := .stopped } s
    if (feeder n s).state = .on then feederTrip n .overcurrent s else s
  | _ => s

/-- The reclose timer expires (R140). -/
def recloseTimerExpiry (n : Feeder) (s : State) : State :=
  match (feeder n s).reclose with
  | .stopped => s
  | .running d =>
    let s := advanceTo d s
    let s := setFeeder n { feeder n s with reclose := .stopped } s
    if (feeder n s).state = .tripped then
      if servable (feeder n s) then joinFeeder n .reclose s else exitOff n (unservableReason (feeder n s)) s
    else s

/-! ### The sample set -/

/-- The record with a FEEDERS read taken in (R129): the class in force is 7 without a GOOD entry with present yes. -/
def recordFeederRead (read : ReadResult) (r : FeederRecord) : FeederRecord :=
  match read with
  | .good img =>
    let v := feederEntry img
    { r with values := some v, entryState := .good, cls := if v.present then v.cls else 7 }
  | _ => { r with entryState := readStatus read, cls := 7 }

/-- One entry's read and the changes it brings (R129). -/
def applyFeederRead (n : Feeder) (read : ReadResult) (s : State) : State :=
  let old := feeder n s
  let r := recordFeederRead read old
  let s := setFeeder n r s
  let s := if r.cls = old.cls then s else issue (.sbuClassNotice (.feeder n) r.cls) s
  if servable r then (if servable old then s else joinIfWanted n s) else exitOff n (unservableReason r) s

/-- FCU reads the twelve entries, after taking any swap (R129); in rising feeder number, which R129 does not fix
(log 55). -/
def readFeeders (s : State) : State :=
  eachFeeder (fun n s =>
    let (read, s) := readActive .feeders (n.val + 1) s
    applyFeederRead n read s) (takePending .feeders s)

/-- A feeder in CLOSING at a set: the confirm (R134, R135). -/
def confirmFeeder (breaker : Option Nat) (n : Feeder) (s : State) : State :=
  if breaker = some 1 then
    putFeeder n
      { feeder n s with
        state := .on, watch := .stopped, settle := startTimer s.sbu.balance.settleTime s } s
  else s

/-- The breaker watch of an ON feeder at a set (R137). -/
def nextWatch (breaker : Option Nat) (s : State) (t : HeldTimer) : HeldTimer :=
  match breaker with
  | none => t
  | some 0 =>
    match t with
    | .stopped => .running (deadlineIn Config.watch s)
    | _ => t
  | some _ => .stopped

/-- The limit of the active tier (R138). -/
def activeLimit (v : FeederValues) (tier : Tier) : Nat :=
  match tier with
  | .normal => v.normalLimit
  | .reduced => v.reducedLimit

/-- The trip timer of an ON feeder at a set (R138). -/
def nextTrip (current : Option Nat) (v : FeederValues) (tier : Tier) (s : State) (t : HeldTimer) : HeldTimer :=
  match current with
  | none => freezeTimer t s
  | some i => if activeLimit v tier < i then runTimer t v.tripDelay s else .stopped

/-- An ON feeder at a set (R137, R138). -/
def superviseOn (breaker current : Option Nat) (n : Feeder) (s : State) : State :=
  let r := feeder n s
  match r.values with
  | none => setFeeder n { r with watch := nextWatch breaker s r.watch } s
  | some v =>
    setFeeder n { r with watch := nextWatch breaker s r.watch, trip := nextTrip current v r.tier s r.trip } s

/-- One feeder at a set, by its state as the set finds it (R134, R137, R138; log 24). -/
def superviseFeeder (set : SampleSet) (n : Feeder) (s : State) : State :=
  let breaker := (setView set .feederBreaker (n.val + 1)).current
  match (feeder n s).state with
  | .closing => confirmFeeder breaker n s
  | .on => superviseOn breaker (setView set .feederCurrent (n.val + 1)).current n s
  | _ => s

/-- The over-voltage count is set. -/
def setOverVoltage (c : Nat) (s : State) : State := { s with fcu := { s.fcu with overVoltage := c } }

/-- An ON feeder is shed for over-voltage (R141). -/
def overVoltageShed (n : Feeder) (s : State) : State :=
  if (feeder n s).state = .on then
    let s := setFeeder n { feeder n s with preShed := lastPower n s } s
    joinFeeder n .voltage (if (feeder n s).underRestore then reportFeeder n s else s)
  else s

/-- The over-voltage count at a set (R141). The ON feeders join in rising number, so those of one class stand in that
order (log 48). -/
def checkOverVoltage (voltage : Option Nat) (s : State) : State :=
  if inRun s then
    match s.tsu.protection, voltage with
    | none, _ => setOverVoltage 0 s
    | some _, none => s
    | some p, some v =>
      if p.vHigh < v then
        if p.ovCount ≤ s.fcu.overVoltage + 1 then latch .shed (eachFeeder overVoltageShed (setOverVoltage 0 s))
        else setOverVoltage (s.fcu.overVoltage + 1) s
      else setOverVoltage 0 s
  else setOverVoltage 0 s

/-- FCU takes a sample set (R129, R134, R137, R138, R141). -/
def fcuSampleSet (set : SampleSet) (s : State) : State :=
  checkOverVoltage (setView set .lineVoltage 0).current (eachFeeder (superviseFeeder set) (readFeeders s))

/-! ### Tiers, ring and mode (R142 to R144) -/

/-- FCU takes a tier notice (R142). -/
def tierNotice (n : Feeder) (tier : Tier) (s : State) : State :=
  let old := feeder n s
  let s := setFeeder n { old with tier := tier } s
  let r := feeder n s
  if unservedTier r then exitOff n .allowance s
  else if servable old then s
  else joinIfWanted n s

/-- The ring-down announcement (R143). -/
def fcuRingDown (s : State) : State :=
  eachFeeder (fun n s =>
    let r := feeder n s
    setFeeder n { r with watch := suspendTimer r.watch s, trip := suspendTimer r.trip s } s) s

/-- The ring-up announcement (R143). -/
def fcuRingUp (s : State) : State :=
  eachFeeder (fun n s =>
    let r := feeder n s
    setFeeder n { r with watch := resumeTimer r.watch s, trip := resumeTimer r.trip s } s) s

/-- A feeder at the mode notice into RUN (R144). -/
def joinAtRun (n : Feeder) (s : State) : State :=
  let r := feeder n s
  if r.state = .off ∧ r.desired = true ∧ servable r = true then joinFeeder n .startup s else s

/-- The restore of a feeder is over because the feeder has left it; no gap starts (R103; log 47). -/
def dropRestore (n : Feeder) (s : State) : State :=
  if s.sbu.restoring = some n then updSbu (fun b => { b with restoring := none }) s else s

/-- A feeder at a change out of RUN: its claim record or shed list entry leaves with it, and with a restoring feeder
its restore (R94, R103, R144). -/
def leaveRunFeeder (n : Feeder) (s : State) : State :=
  match (feeder n s).state with
  | .shed => feederPlantOff n (leaveShed n s)
  | .restoring => feederPlantOff n (dropRestore n (removeClaim (.feeder n) s))
  | .closing => feederPlantOff n (dropRestore n (removeClaim (.feeder n) s))
  | .on => feederPlantOff n (dropRestore n (removeClaim (.feeder n) s))
  | _ => feederPlantOff n s

/-- FCU takes a mode notice, the feeders in rising number: feeders of one class that join at it stand in that order
(R144; log 48). -/
def fcuModeNotice (old new : PlantMode) (s : State) : State :=
  if new = .run then eachFeeder joinAtRun s
  else if leavesRun old new then setOverVoltage 0 (eachFeeder leaveRunFeeder s)
  else s

/-! ### Meanings -/

/-- FCU_SAMPLE_SET (R129). -/
def execFcuSampleSet (set : SampleSet) (s : State) : Host.Outcome State Fault Refusal :=
  .next (powered s (fcuSampleSet set (take (.fcuSampleSet set) s)))

/-- FEEDER_GRANTED (R134). -/
def execFeederGranted (n : Feeder) (s : State) : Host.Outcome State Fault Refusal :=
  .next (powered s (feederGranted n (take (.feederGranted n) s)))

/-- BREAKER_WATCH_TIMER_EXPIRY (R134). -/
def execBreakerWatchTimerExpiry (n : Feeder) (s : State) : Host.Outcome State Fault Refusal :=
  .next (powered s (breakerWatchTimerExpiry n s))

/-- SETTLE_TIMER_EXPIRY (R135). -/
def execSettleTimerExpiry (n : Feeder) (s : State) : Host.Outcome State Fault Refusal :=
  .next (powered s (settleTimerExpiry n s))

/-- TRIP_TIMER_EXPIRY (R138). -/
def execTripTimerExpiry (n : Feeder) (s : State) : Host.Outcome State Fault Refusal :=
  .next (powered s (tripTimerExpiry n s))

/-- RECLOSE_TIMER_EXPIRY (R140). -/
def execRecloseTimerExpiry (n : Feeder) (s : State) : Host.Outcome State Fault Refusal :=
  .next (powered s (recloseTimerExpiry n s))

/-- FEEDER_WANT_ON (R131). -/
def execFeederWantOn (origin : Origin) (number : Word) (s : State) : Host.Outcome State Fault Refusal :=
  .next (powered s (feederWant origin number wantOn (take (.feederWantOn origin number) s)))

/-- FEEDER_WANT_OFF (R131). -/
def execFeederWantOff (origin : Origin) (number : Word) (s : State) : Host.Outcome State Fault Refusal :=
  .next (powered s (feederWant origin number wantOff (take (.feederWantOff origin number) s)))

/-- FEEDER_CLEAR (R132). -/
def execFeederClear (number : Word) (s : State) : Host.Outcome State Fault Refusal :=
  .next (powered s (feederRequest number clearFeeder (take (.feederClear number) s)))

/-- TIER_NOTICE (R142). -/
def execTierNotice (n : Feeder) (tier : Tier) (s : State) : Host.Outcome State Fault Refusal :=
  .next (powered s (tierNotice n tier (take (.tierNotice n tier) s)))

/-- FCU_RING_DOWN (R143). -/
def execFcuRingDown (s : State) : Host.Outcome State Fault Refusal := .next (powered s (fcuRingDown (take .fcuRingDown s)))

/-- FCU_RING_UP (R143). -/
def execFcuRingUp (s : State) : Host.Outcome State Fault Refusal := .next (powered s (fcuRingUp (take .fcuRingUp s)))

/-- FCU_MODE_NOTICE (R144). -/
def execFcuModeNotice (old new : PlantMode) (s : State) : Host.Outcome State Fault Refusal :=
  .next (powered s (fcuModeNotice old new (take (.fcuModeNotice old new) s)))

end Sys2Proof.Machine
end

