-- ==== Sys2Proof/Machine/Accounts.lean ====
section
/-! DEFINITION. Energy Account Unit: metering, the tariff band, allowances and tiers, day boundary and account reset
(spec/08, R146 to R157). -/

namespace Sys2Proof.Machine

/-- Changes EAU's record. -/
def updEau (f : Eau → Eau) (s : State) : State := { s with eau := f s.eau }

/-- An account; account n stands at n - 1 (R146). -/
def account (i : Fin 14) (s : State) : Account := s.eau.accounts[i]

/-- Replaces an account. -/
def setAccount (i : Fin 14) (a : Account) (s : State) : State :=
  updEau (fun e => { e with accounts := e.accounts.set i a }) s

/-- The account of a feeder (R146). -/
def feederAccount (n : Feeder) : Fin 14 := ⟨n.val, by omega⟩

/-- A feeder's tier is set. -/
def setTier (n : Feeder) (t : Tier) (s : State) : State := updEau (fun e => { e with tiers := e.tiers.set n t }) s

/-! ### Metering (R147 to R151) -/

/-- One Wh carried to a band total; a total at its maximum takes none and the at-max flag is set (R151). -/
def carryTo (band : TariffBand) (a : Account) : Account :=
  match band with
  | .low => if a.low < Config.max32 then { a with low := a.low + 1 } else { a with atMax := true }
  | .standard => if a.standard < Config.max32 then { a with standard := a.standard + 1 } else { a with atMax := true }
  | .peak => if a.peak < Config.max32 then { a with peak := a.peak + 1 } else { a with atMax := true }

/-- Whether energy, in W·ms, brings an account to a carry (R148 step 2). -/
def carries (e : Nat) (a : Account) : Bool := decide (Config.wh ≤ a.remainder + e)

/-- Energy added to an account, with the carry of one Wh (R148 steps 1 and 2, R151). -/
def addEnergy (band : TariffBand) (e : Nat) (a : Account) : Account :=
  if carries e a then
    { carryTo band a with remainder := a.remainder + e - Config.wh, daily := min (a.daily + 1) 65535 }
  else { a with remainder := a.remainder + e }

/-- The daily allowance in force of a feeder (R154). -/
def allowanceOf (n : Feeder) (s : State) : Nat := ((feeder n s).values.map (·.allowance)).getD 0

/-- The allowance test after a carry (R155). -/
def allowanceTest (n : Feeder) (s : State) : State :=
  if s.eau.tiers[n] = .normal ∧ allowanceOf n s ≠ 0 ∧ allowanceOf n s ≤ (account (feederAccount n) s).daily then
    issue (.tierNotice n .reduced) (latch .allowanceReached (setTier n .reduced s))
  else s

/-- A metered account whose power is unavailable: the gap flag, and METERING-GAP where it was clear (R150). -/
def recordGap (i : Fin 14) (s : State) : State :=
  if (account i s).gap then s else latch .meteringGap (setAccount i { account i s with gap := true } s)

/-- Energy added to an account under the band in force. -/
def meterAccount (i : Fin 14) (e : Nat) (s : State) : State := setAccount i (addEnergy s.eau.band e (account i s)) s

/-- Whether a feeder account is metered (R147). -/
def feederMetered (n : Feeder) (s : State) : Bool := feederPresent (feeder n s)

/-- One feeder account at a set (R148). -/
def meterFeeder (set : SampleSet) (n : Feeder) (s : State) : State :=
  if feederMetered n s then
    match (setView set .feederPower (n.val + 1)).current with
    | none => recordGap (feederAccount n) s
    | some p =>
      let carried := carries (p * set.period) (account (feederAccount n) s)
      let s := meterAccount (feederAccount n) (p * set.period) s
      if carried then allowanceTest n s else s
  else s

/-- Whether the saw account is metered (R147). -/
def sawMetered (s : State) : Bool := s.sdu.values.any (·.present)

/-- Power of the saw from a set: available while both its quantities are current (R147, R150). -/
def sawPower (set : SampleSet) : Option Nat :=
  match (setView set .sawCurrent 0).current, (setView set .lineVoltage 0).current with
  | some i, some v => some (i * v / 100)
  | _, _ => none

/-- The saw account at a set (R148). -/
def meterSaw (set : SampleSet) (s : State) : State :=
  if sawMetered s then
    match sawPower set with
    | none => recordGap 12 s
    | some p => meterAccount 12 (p * set.period) s
  else s

/-- EAU takes a sample set (R148): the feeder accounts in rising number, then the saw account (log 48). -/
def eauSampleSet (set : SampleSet) (s : State) : State := meterSaw set (eachFeeder (meterFeeder set) s)

/-! ### The band (R152, R153) -/

/-- A read HOLIDAYS entry carries a month and day. -/
def holidayMatches (month day : Nat) (r : ReadResult) : Bool :=
  match r with
  | .good img => holidayEntry img == (month, day)
  | _ => false

/-- The half-hour slot of a stamp (R152). -/
def halfHour (t : Stamp) : Nat := t.hour * 2 + (if 30 ≤ t.minute then 1 else 0)

/-- The day type of a stamp, from the HOLIDAYS entries read (R152). -/
def dayTypeOf (t : Stamp) (holidays : List ReadResult) : DayType :=
  if t.weekday = .sunday ∨ holidays.any (holidayMatches t.month t.day) = true then .rest else .workday

/-- The TARIFF entry of a day type and slot (R153). -/
def tariffIndex (d : DayType) (slot : Nat) : Nat :=
  match d with
  | .workday => slot + 1
  | .rest => slot + 49

/-- The band record of a TARIFF read (R152 step 3). -/
def recordBand (d : DayType) (slot : Nat) (r : ReadResult) (s : State) : State :=
  match r with
  | .good img =>
    updEau (fun e => { e with band := tariffEntry img, dayType := some d, slot := some slot, basis := .table }) s
  | _ =>
    updEau (fun e => { e with band := .standard, dayType := some d, slot := some slot, basis := .entryNotGood }) s

/-- The evaluation of the band from a stamp (R152 steps 1 to 3); the HOLIDAYS entries are read 1 to 16, which R153 does
not fix (log 55). -/
def evaluateBand (t : Stamp) (s : State) : State :=
  if t.valid then
    let (holidays, s) := readActives .holidays (tableIndexes .holidays) s
    let day := dayTypeOf t holidays
    let (r, s) := readActive .tariff (tariffIndex day (halfHour t)) s
    recordBand day (halfHour t) r s
  else updEau (fun e => { e with band := .standard, dayType := none, slot := none, basis := .calendarInvalid }) s

/-- EAU takes a minute event (R152, R153). -/
def eauMinuteEvent (t : Stamp) (s : State) : State :=
  evaluateBand t (takePending .holidays (takePending .tariff s))

/-! ### Day boundary and account reset (R156, R157) -/

/-- A tier returns to NORMAL, with a tier notice where it was REDUCED (R156, R157). -/
def normalTier (n : Feeder) (s : State) : State :=
  match s.eau.tiers[n] with
  | .reduced => issue (.tierNotice n .normal) (setTier n .normal s)
  | .normal => s

/-- The DAY-BOUNDARY action (R156). The tier notices go out in rising feeder number, which settles the order in which
feeders of one class join at them (log 48). -/
def dayBoundaryAction (s : State) : State :=
  eachFeeder normalTier
    (updEau (fun e => { e with accounts := Vec.ofFn fun i => { e.accounts[i] with daily := 0 } }) s)

/-- The account of a number 1 to 14 (R157, R158). -/
def accountOfNumber (w : Word) : Option (Fin 14) :=
  if h : 1 ≤ w.toNat ∧ w.toNat ≤ 14 then some ⟨w.toNat - 1, by omega⟩ else none

/-- The feeder of an account, for accounts 1 to 12 (R146). -/
def feederOfAccount (i : Fin 14) : Option Feeder := if h : i.val < 12 then some ⟨i.val, h⟩ else none

/-- An account is zeroed (R157). -/
def zeroAccount (i : Fin 14) (s : State) : State :=
  let s := setAccount i Account.zero s
  match feederOfAccount i with
  | some n => normalTier n s
  | none => s

/-- EAU judges ACCOUNT-RESET (R157). -/
def accountReset (number : Word) (s : State) : State :=
  match accountOfNumber number with
  | none => answer .badArgument [] s
  | some i => if s.tsu.mode = .commission then answer .done [] (zeroAccount i s) else answer .refusedMode [] s

/-! ### Meanings -/

/-- EAU_SAMPLE_SET (R148). -/
def execEauSampleSet (set : SampleSet) (s : State) : Host.Outcome State Fault Refusal :=
  .next (powered s (eauSampleSet set (take (.eauSampleSet set) s)))

/-- EAU_METERING_REPORT (R149); the report's power is not used. -/
def execEauMeteringReport (energy power : Nat) (s : State) : Host.Outcome State Fault Refusal :=
  .next (powered s (meterAccount 13 energy (take (.eauMeteringReport energy power) s)))

/-- EAU_MINUTE_EVENT (R152). -/
def execEauMinuteEvent (stamp : Stamp) (s : State) : Host.Outcome State Fault Refusal :=
  .next (powered s (eauMinuteEvent stamp (take (.eauMinuteEvent stamp) s)))

/-- DAY_BOUNDARY (R156). -/
def execDayBoundary (s : State) : Host.Outcome State Fault Refusal :=
  .next (powered s (dayBoundaryAction (take .dayBoundary s)))

/-- ACCOUNT_RESET (R157). -/
def execAccountReset (number : Word) (s : State) : Host.Outcome State Fault Refusal :=
  .next (powered s (accountReset number (take (.accountReset number) s)))

end Sys2Proof.Machine
end

