-- ==== Sys2Proof/Machine/Calendar.lean ====
section
/-! DEFINITION. Calendar and Schedule Unit: the rollover and its events, the schedule, and CALENDAR-SET (spec/09, R159
to R168). -/

namespace Sys2Proof.Machine

/-- Changes CSU's record. -/
def updCsu (f : Csu → Csu) (s : State) : State := { s with csu := f s.csu }

/-! ### Counting (R160, R161) -/

/-- A year divisible by 4, which is exact for 2000 to 2099 (R160). -/
def leapYear (year : Nat) : Bool := year % 4 == 0

/-- The next weekday; Sunday is followed by Monday (R160). -/
def nextWeekday (d : Weekday) : Weekday :=
  match d with
  | .monday => .tuesday
  | .tuesday => .wednesday
  | .wednesday => .thursday
  | .thursday => .friday
  | .friday => .saturday
  | .saturday => .sunday
  | .sunday => .monday

/-- The month carry; at the year 2100 the calendar becomes 2000-01-01, a Saturday (R160). -/
def carryMonth (c : Csu) : Csu :=
  if c.month + 1 = 13 then
    if c.year + 1 = 2100 then { c with month := 1, year := 2000, weekday := .saturday }
    else { c with month := 1, year := c.year + 1 }
  else { c with month := c.month + 1 }

/-- The day carry, with the next weekday (R160). -/
def carryDay (c : Csu) : Csu :=
  let c := { c with weekday := nextWeekday c.weekday }
  if monthLength (leapYear c.year) c.month < c.day + 1 then carryMonth { c with day := 1 }
  else { c with day := c.day + 1 }

/-- The hour carry (R160). -/
def carryHour (c : Csu) : Csu := if c.hour + 1 = 24 then carryDay { c with hour := 0 } else { c with hour := c.hour + 1 }

/-- The minute carry (R160). -/
def carryMinute (c : Csu) : Csu :=
  if c.minute + 1 = 60 then carryHour { c with minute := 0 } else { c with minute := c.minute + 1 }

/-- The calendar advances by one second (R160). -/
def advanceSecond (c : Csu) : Csu :=
  if c.second + 1 = 60 then carryMinute { c with second := 0 } else { c with second := c.second + 1 }

/-- The stamp of the calendar as it stands (R161). -/
def stampOf (c : Csu) : Stamp :=
  { year := c.year, month := c.month, day := c.day, hour := c.hour, minute := c.minute, weekday := c.weekday,
    valid := c.valid }

/-- The events of a rollover: a second event, and at second 0 a minute event (R161). -/
def rolloverEvents (c : Csu) : List Instr :=
  [.tsuSecondEvent, .frgSecondEvent] ++
  (if c.second = 0 then [.eauMinuteEvent (stampOf c), .frgMinuteEvent (stampOf c), .csuMinuteEvent (stampOf c)]
   else [])

/-- The divider is brought to one second, if it is not yet there (log 2). -/
def reachSecond (s : State) : State := elapse (Config.second - s.csu.divider) s

/-- The rollover: the divider returns to 0, the calendar advances, and with the main supply present the events are
issued (R160, R161). Time that has passed beyond the second stays in the divider. -/
def dividerRollover (s : State) : State :=
  let s := reachSecond s
  let s := updCsu (fun c => { advanceSecond c with divider := c.divider - Config.second }) s
  if s.mainPresent then issueAll (rolloverEvents s.csu) s else s

/-! ### The schedule (R165 to R169) -/

/-- Place of a weekday in a weekday set, Monday first (R193). -/
def weekdayIndex (d : Weekday) : Nat :=
  match d with
  | .monday => 0
  | .tuesday => 1
  | .wednesday => 2
  | .thursday => 3
  | .friday => 4
  | .saturday => 5
  | .sunday => 6

/-- The holiday rule against whether the stamp's date is a holiday (R166 condition 6). -/
def holidayAllows (r : HolidayRule) (holiday : Bool) : Bool :=
  match r with
  | .any => true
  | .skipHolidays => !holiday
  | .holidaysOnly => holiday

/-- A SCHEDULE entry matches a stamp (R166). -/
def scheduleMatches (e : ScheduleEntry) (t : Stamp) (holiday : Bool) : Bool :=
  e.enabled && e.minute == t.minute && e.hour.all (· == t.hour) && e.weekdays.testBit (weekdayIndex t.weekday) &&
  e.date.all (· == t.day) && holidayAllows e.holiday holiday

/-- The event that hands an action to its block (R168). -/
def actionEvent (a : ScheduleAction) : Instr :=
  match a with
  | .feederWantOn n => .feederWantOn .schedule (BitVec.ofNat 32 n)
  | .feederWantOff n => .feederWantOff .schedule (BitVec.ofNat 32 n)
  | .sawClass c => .sawClass c
  | .sawLockout code => .sawLockout (code == 1)
  | .dayBoundary => .dayBoundary
  | .shareBand low high => .shareBand low high

/-- An action is skipped: its feeder's entry, as FCU holds it, is EMPTY, or GOOD with present no (R168). -/
def actionSkipped (a : ScheduleAction) (s : State) : Bool :=
  let absent := fun (n : Nat) => (feederOfNumber (BitVec.ofNat 32 n)).any fun n => feederAbsent (feeder n s)
  match a with
  | .feederWantOn n => absent n
  | .feederWantOff n => absent n
  | _ => false

/-- The last evaluation record takes a matching entry, as run or as skipped (R169). -/
def recordRun (i : Nat) (skipped : Bool) (c : Csu) : Csu :=
  { c with
    lastEvaluation := c.lastEvaluation.map fun e =>
      if skipped then { e with skipped := e.skipped ++ [i] } else { e with ran := e.ran ++ [i] } }

/-- One SCHEDULE entry of an evaluation (R166 to R168). -/
def runEntry (t : Stamp) (holiday : Bool) (i : Nat) (s : State) : State :=
  let (r, s) := readActive .schedule i s
  match r with
  | .good img =>
    let e := scheduleEntry img
    if scheduleMatches e t holiday then
      if actionSkipped e.action s then updCsu (recordRun i true) s
      else issue (actionEvent e.action) (updCsu (recordRun i false) s)
    else s
  | _ => s

/-- The evaluation of the schedule at a valid stamp, in entry order (R166, R169), after the HOLIDAYS reads, which are
made in rising index (log 5, 55). -/
def evaluateSchedule (t : Stamp) (s : State) : State :=
  let (holidays, s) := readActives .holidays (tableIndexes .holidays) s
  let holiday := holidays.any (holidayMatches t.month t.day)
  let s := updCsu (fun c => { c with lastEvaluation := some { stamp := t, ran := [], skipped := [] } }) s
  (tableIndexes .schedule).foldl (fun s i => runEntry t holiday i s) s

/-- CSU takes a minute event (R165, R166). -/
def csuMinuteEvent (t : Stamp) (s : State) : State :=
  let s := takePending .schedule s
  if t.valid then evaluateSchedule t s else s

/-! ### CALENDAR-SET (R163) -/

/-- The tests of CALENDAR-SET (R163). -/
def calendarArguments (year month day hour minute second : Nat) : Bool :=
  within 2000 2099 year && within 1 12 month && within 0 23 hour && within 0 59 minute && within 0 59 second &&
  within 1 (monthLength (leapYear year) month) day

/-- Days of the months before a month. -/
def daysBeforeMonth (leap : Bool) (month : Nat) : Nat :=
  ((List.range (month - 1)).map fun m => monthLength leap (m + 1)).sum

/-- Days from 2000-01-01 to a date (R163). -/
def daysSince2000 (year month day : Nat) : Nat :=
  365 * (year - 2000) + (year - 2000 + 3) / 4 + daysBeforeMonth (leapYear year) month + (day - 1)

/-- The weekday so many days after a Saturday (R163). -/
def weekdayAfterSaturday (days : Nat) : Weekday :=
  match days % 7 with
  | 0 => .saturday
  | 1 => .sunday
  | 2 => .monday
  | 3 => .tuesday
  | 4 => .wednesday
  | 5 => .thursday
  | _ => .friday

/-- CSU judges CALENDAR-SET (R163). -/
def calendarSet (year month day hour minute second : Nat) (s : State) : State :=
  if calendarArguments year month day hour minute second then
    answer .done []
      (updCsu (fun c => { c with
        year := year, month := month, day := day, hour := hour, minute := minute, second := second
        weekday := weekdayAfterSaturday (daysSince2000 year month day), divider := 0, valid := true }) s)
  else answer .badArgument [] s

/-! ### Meanings -/

/-- DIVIDER_ROLLOVER (R160): with the main supply absent the calendar counts on the backup supply (R159). -/
def execDividerRollover (s : State) : Host.Outcome State Fault Refusal :=
  .next (if calendarCounts s then dividerRollover s else s)

/-- CSU_MINUTE_EVENT (R166). -/
def execCsuMinuteEvent (stamp : Stamp) (s : State) : Host.Outcome State Fault Refusal :=
  .next (powered s (csuMinuteEvent stamp (take (.csuMinuteEvent stamp) s)))

/-- CALENDAR_SET (R163). -/
def execCalendarSet (year month day hour minute second : Word) (s : State) : Host.Outcome State Fault Refusal :=
  .next (powered s
    (calendarSet year.toNat month.toNat day.toNat hour.toNat minute.toNat second.toNat
      (take (.calendarSet year month day hour minute second) s)))

end Sys2Proof.Machine
end

