-- ==== Sys2Proof/Machine/Tables.lean ====
section
/-! DEFINITION. Table Store: the four table requests (spec/10, R172 to R175, R180). -/

namespace Sys2Proof.Machine

/-- The table and entry of a request, where both are in range (R171). -/
def addressed (id index : Byte) : Option (TableId × Nat) :=
  match tableOfId id.toNat with
  | none => none
  | some t => if within (tableBounds t).1 (tableBounds t).2 index.toNat then some (t, index.toNat) else none

/-- Tests 2 and 3 of R172, which COPY-ACTIVE shares. -/
def writeStatus (t : TableId) (s : State) : Status :=
  if writeAllowed t s.tsu.mode then (if (table t s).pending then .swapPending else .done) else .refusedMode

/-- WRITE-ENTRY (R172). -/
def writeEntry (id index : Byte) (emptyMark : Bool) (img : Image) (s : State) : State :=
  match addressed id index with
  | none => answer .badArgument [] s
  | some (t, i) =>
    if emptyMark || encodable t i img then
      if writeStatus t s = .done then
        answer .done [] (writeStandby t i (if emptyMark then none else some img) s)
      else answer (writeStatus t s) [] s
    else answer .badArgument [] s

/-- A double error in the standby entry that COPY-ACTIVE is about to write over is found, and the entry marked DAMAGED
(R178). A single-bit error in it is not looked for (log 50). -/
def findDouble (t : TableId) (i : Nat) (s : State) : State :=
  let b := bankOfRole (table t s) .standby
  match bankRead (bankOf (table t s) b) i with
  | some (.good _ .double) => damageEntry t b i s
  | _ => s

/-- The standby entry of COPY-ACTIVE: a double error in it is found, then it is written over (R173, R178). -/
def copyOver (t : TableId) (i : Nat) (img : Option Image) (s : State) : State := writeStandby t i img (findDouble t i s)

/-- One entry of COPY-ACTIVE: read from the active bank and written to the standby bank; the list collects the
DAMAGED ones (R173). -/
def copyEntry (t : TableId) (acc : List Nat × State) (i : Nat) : List Nat × State :=
  match readActive t i acc.2 with
  | (.good img, s) => (acc.1, copyOver t i (some img) s)
  | (.empty, s) => (acc.1, copyOver t i none s)
  | (.damaged, s) => (acc.1 ++ [i], copyOver t i none s)

/-- COPY-ACTIVE (R173). -/
def copyActive (id : Byte) (s : State) : State :=
  match tableOfId id.toNat with
  | none => answer .badArgument [] s
  | some t =>
    if writeStatus t s = .done then
      match (tableIndexes t).foldl (copyEntry t) ([], s) with
      | ([], s) => answer .done [] s
      | (i :: _, s) => answer .damaged [BitVec.ofNat 32 i] s
    else answer (writeStatus t s) [] s

/-- What validation remembers of the entries before: whether a present TRIM stands among them, and the kinds and
instances of the SAMPLE entries (R175 check 4). -/
structure Seen where
  trim    : Bool
  samples : List (SampleKind × Nat)

/-- Check 4 of R175: the second present TRIM, or a later SAMPLE entry of the same kind and instance. -/
def crossFails (t : TableId) (i : Nat) (img : Image) (seen : Seen) : Bool :=
  match t with
  | .ballast => seen.trim && (ballastEntry img).present && (ballastEntry img).trim
  | .slotMap =>
    if i = 0 then false
    else
      match slotRole img with
      | .sample k inst _ _ _ => seen.samples.contains (k, inst)
      | _ => false
  | _ => false

/-- An entry joins what validation remembers. -/
def remember (t : TableId) (i : Nat) (img : Image) (seen : Seen) : Seen :=
  match t with
  | .ballast => { seen with trim := seen.trim || ((ballastEntry img).present && (ballastEntry img).trim) }
  | .slotMap =>
    if i = 0 then seen
    else
      match slotRole img with
      | .sample k inst _ _ _ => { seen with samples := (k, inst) :: seen.samples }
      | _ => seen
  | _ => seen

/-- Whether an entry as read fails a check of R175. -/
def entryFails (t : TableId) (i : Nat) (r : ReadResult) (seen : Seen) : Bool :=
  match r with
  | .damaged => true
  | .empty => mustBeWritten t
  | .good img => !entryValid t i img || crossFails t i img seen

/-- The first failing index of a bank as read, or none (R175). -/
def firstFailure (t : TableId) (entries : List (Nat × ReadResult)) (seen : Seen) : Option Nat :=
  match entries with
  | [] => none
  | (i, r) :: rest =>
    if entryFails t i r seen then some i
    else
      match r with
      | .good img => firstFailure t rest (remember t i img seen)
      | _ => firstFailure t rest seen

/-- Every entry of a bank read in index order (R175). -/
def readAll (t : TableId) (b : Bank) (is : List Nat) (s : State) : List (Nat × ReadResult) × State :=
  match is with
  | [] => ([], s)
  | i :: rest =>
    let (r, s) := readBank t b i s
    let (rs, s) := readAll t b rest s
    ((i, r) :: rs, s)

/-- Validation of the standby bank: the failing index, or none (R175). -/
def validate (t : TableId) (s : State) : Option Nat × State :=
  let (entries, s) := readAll t (bankOfRole (table t s) .standby) (tableIndexes t) s
  (firstFailure t entries { trim := false, samples := [] }, s)

/-- The swap is marked pending and the generation advances (R174). -/
def markPending (t : TableId) (s : State) : State :=
  setTable t { table t s with pending := true, generation := (table t s).generation + 1 } s

/-- An answer that opens with the table state as it stands (R174, R180). -/
def answerTable (t : TableId) (status : Status) (words : List Word) (s : State) : State :=
  answer status (tableStateWord (table t s) :: words) s

/-- SWAP (R174). -/
def swapRequest (id generation : Byte) (s : State) : State :=
  match tableOfId id.toNat with
  | none => answer .badArgument [] s
  | some t =>
    if writeAllowed t s.tsu.mode then
      if generation = (table t s).generation then
        if (table t s).pending then answerTable t .swapPending [] s
        else
          match validate t s with
          | (none, s) => answerTable t .done [] (markPending t s)
          | (some i, s) => answerTable t .invalid [BitVec.ofNat 32 i] s
      else answerTable t .done [] s
    else answerTable t .refusedMode [] s

/-- A READ-ENTRY out of range: BAD-ARGUMENT, with the table state where the table id names a table (R180). -/
def refuseRead (id : Byte) (s : State) : State :=
  match tableOfId id.toNat with
  | none => answer .badArgument [] s
  | some t => answerTable t .badArgument [] s

/-- READ-ENTRY (R180): the table state, and the image of a GOOD entry (R194). -/
def readEntry (id : Byte) (role : Role) (index : Byte) (s : State) : State :=
  match addressed id index with
  | none => refuseRead id s
  | some (t, i) =>
    match readBank t (bankOfRole (table t s) role) i s with
    | (.good img, s) => answerTable t .done img.toList s
    | (.empty, s) => answerTable t .absent [] s
    | (.damaged, s) => answerTable t .damaged [] s

/-! ### Meanings -/

/-- WRITE_ENTRY (R172). -/
def execWriteEntry (table index : Byte) (emptyMark : Bool) (image : Image) (s : State) :
    Host.Outcome State Fault Refusal :=
  .next (powered s (writeEntry table index emptyMark image (take (.writeEntry table index emptyMark image) s)))

/-- COPY_ACTIVE (R173). -/
def execCopyActive (table : Byte) (s : State) : Host.Outcome State Fault Refusal :=
  .next (powered s (copyActive table (take (.copyActive table) s)))

/-- SWAP (R174). -/
def execSwap (table generation : Byte) (s : State) : Host.Outcome State Fault Refusal :=
  .next (powered s (swapRequest table generation (take (.swap table generation) s)))

/-- READ_ENTRY (R180). -/
def execReadEntry (table : Byte) (role : Role) (index : Byte) (s : State) : Host.Outcome State Fault Refusal :=
  .next (powered s (readEntry table role index (take (.readEntry table role index) s)))

end Sys2Proof.Machine
end

