-- ==== Sys2Proof/Machine/LiveRecords.lean ====
section
/-! DEFINITION. The live records and the minute summary that management reads (R36, R58, R81, R105, R126, R145, R158,
R169, R181), in the images of R195 and the pages of R196. -/

namespace Sys2Proof.Machine

/-- What a read is answered with: a status and the data words. -/
abbrev Reply := Status × Words

/-- A refusal of a read, with no data words. -/
def refusal (status : Status) : Reply := (status, wordsOf [])

/-- A page of an image with a status, or the refusal of a page beyond it (R196). -/
def pageReply (status : Status) (fields : List LiveField) (page : Word) : Reply :=
  match livePage (liveImage fields) page with
  | some w => (status, w)
  | none => refusal .badArgument

/-- A quantity as a record reads it: value, then state. -/
def viewFields (v : View) : List LiveField := [liveOpt v.value, liveNat (qstateCode v.state)]

/-- A two-valued field whose rule lists the true value first (R195, log 27). -/
def liveFlag (b : Bool) : LiveField := liveNat (trueFirst b)

/-- A two-valued field that a layout codes 1 for true, or whose rule lists no values (log 27). -/
def liveBit (b : Bool) : LiveField := liveNat (falseFirst b)

/-! ### Quantities (R36) -/

/-- Fields of the quantity record of a slot; kind and instance only where it is in use, an instance of none absent. -/
def quantityFields (k : Fin 64) (s : State) : List LiveField :=
  let use := recordUse k.val s
  let r := s.miu.records[k]
  [ liveBit use.isSome, liveOpt (use.map fun u => sampleKindCode u.1),
    liveOpt (use.bind fun u => if u.2 = 0 then none else some u.2), liveOpt r.value, liveOpt r.freq, liveNat r.age,
    liveNat r.hold, liveFlag r.atLimit, liveNat (qstateCode (recordState r)) ]

/-- Fields of the shaft record. -/
def shaftFields (s : State) : List LiveField :=
  let x := s.miu.shaft
  [liveOpt x.tt, liveOpt x.speed, liveOpt x.fShaft, liveNat (qstateCode x.state)]

/-- READ-LIVE of record kind quantity (R36). -/
def quantityReply (index page : Word) (s : State) : Reply :=
  if h : index.toNat < 64 then pageReply .done (quantityFields ⟨index.toNat, h⟩ s) page
  else if index.toNat = 64 then pageReply .done (shaftFields s) page
  else refusal .badArgument

/-! ### The regulator and the summary (R58) -/

/-- Fields of the regulator record. "The floor and ceiling histories with their hit counts" stand as both histories, then
both counts, and a bit of a history word is 1 for a hit and 0 for no hit: the manual does not fix which, and this is the
model's choice (log 30). -/
def regulatorFields (s : State) : List LiveField :=
  let f := s.frg
  [ liveNat (regStateCode f.state), liveNat (sourceCode f.source), liveOpt f.freq, liveNat f.fSet, liveNat f.kp,
    liveNat f.ki, liveNat f.demand, liveNat f.remainder, liveOptInt f.lastError, liveNat f.capacity,
    liveNat f.trimRating, liveNat (bitSet f.steps.toList), liveNat f.stepSum, liveNat f.trimShare,
    liveNat (deliveredPower f), liveNat (bitSet f.floorHistory.toList), liveNat (bitSet f.ceilingHistory.toList),
    liveNat (hitCount f.floorHistory), liveNat (hitCount f.ceilingHistory), liveFlag f.floorSticky,
    liveFlag f.ceilingSticky, liveFlag f.shortfallSticky ]

/-- READ-LIVE of record kind regulator (R58). -/
def regulatorReply (page : Word) (s : State) : Reply := pageReply .done (regulatorFields s) page

/-- The parts of a minute stamp (R57). -/
def stampWords (t : Stamp) : List Nat := [t.year, t.month, t.day, t.hour, t.minute]

/-- Fields of a minute summary entry (R57). -/
def summaryFields (e : MinuteEntry) : List LiveField :=
  liveParts 5 (e.stamp.map stampWords) ++
  [ liveOpt e.fMin, liveOpt e.fMax, liveNat e.average, liveNat e.count,
    liveNat e.floorHits, liveNat e.ceilingHits ]

/-- SUMMARY-READ (R58). An index without an entry is ABSENT whatever the page (log 54). -/
def summaryReply (index page : Word) (s : State) : Reply :=
  if index.toNat < Config.summaryLength then
    match s.frg.summary[index.toNat]? with
    | some e => pageReply .done (summaryFields e) page
    | none => refusal .absent
  else refusal .badArgument

/-! ### The plant (R81, R11) -/

/-- Remaining time of the dwell timer; 0 once it has expired (log 30). -/
def dwellRemaining (s : State) : Option Nat :=
  match s.tsu.dwell with
  | .stopped => none
  | .running d => some ((d - s.now) / 1000)
  | .expired => some 0

/-- The parts of a trip stamp (R59). -/
def dateTimeWords (t : DateTime) : List Nat := [t.year, t.month, t.day, t.hour, t.minute, t.second]

/-- Fields of the plant record: RIF's, then TSU's. -/
def plantFields (s : State) : List LiveField :=
  let t := s.tsu
  [ liveNat s.rif.goodRun, liveNat s.rif.badRun, liveNat (ringCode s.rif.ring), liveNat s.rif.lastRound,
    liveNat (modeCode t.mode), liveFlag t.tripLatch, liveOpt (t.tripCause.map tripCauseCode) ] ++
  liveParts 6 (t.tripStamp.map dateTimeWords) ++
  [ liveNat t.gate, liveOpt (timerRemaining t.startTimer s),
    liveOpt (dwellRemaining s), liveNat t.inBand, liveNat t.share.low, liveNat t.share.high,
    liveNat (bandSourceCode t.share.source), liveFlag t.pond, liveNat t.fSetView, liveFlag t.alarmArmed,
    liveNat t.overspeed, liveNat t.overfrequency, liveOpt t.watch, liveFlag t.watch.isSome,
    liveFlag t.protectionDamage, liveNat (entryStateCode t.turbineState) ]

/-- READ-LIVE of record kind plant (R81). -/
def plantReply (page : Word) (s : State) : Reply := pageReply .done (plantFields s) page

/-! ### Claims and the shed list (R105) -/

/-- Remaining wait time of a QUEUED record or hold time of a GRANTED one, in ms. -/
def claimRemaining (c : Claim) (s : State) : Option Nat :=
  match c.state with
  | .queued since limit => some ((since + limit * 1000 - s.now) / 1000)
  | .granted hold => timerRemaining hold s

/-- Code of a claim's state: QUEUED, GRANTED (R87). -/
def claimStateCode (x : ClaimState) : Nat :=
  match x with
  | .queued _ _ => 0
  | .granted _ => 1

/-- Fields of the record at an index, absent beyond the list. -/
def claimFields (c : Option Claim) (s : State) : List LiveField :=
  [ liveOpt (c.map fun c => holderCode c.holder), liveOpt (c.map (·.cls)), liveOpt (c.map (·.amount)),
    liveOpt (c.map fun c => claimStateCode c.state), liveOpt (c.map (·.order)),
    liveOpt (c.bind fun c => claimRemaining c s) ]

/-- The balance fields of SBU; a restore in progress of none is an absent field (log 30). -/
def balanceFields (s : State) : List LiveField :=
  let b := s.sbu
  [ liveInt (headroom s), liveNat b.view.demand, liveNat b.view.capacity, liveOpt b.view.freq, liveNat b.view.fSet,
    liveNat (grantedAmount s), liveNat b.balance.margin, liveBit b.degraded, liveNat (claims s).length,
    liveNat b.shedList.length, liveOpt (b.restoring.map fun n => n.val + 1), liveOpt (timerRemaining b.shedPause s),
    liveOpt (timerRemaining b.restoreGap s), liveFlag b.unresolved ]

/-- READ-LIVE of record kind claim list entry (R105). -/
def claimReply (index page : Word) (s : State) : Reply :=
  if index.toNat ≤ 12 then pageReply .done (balanceFields s ++ claimFields (claims s)[index.toNat]? s) page
  else refusal .badArgument

/-- Fields of a shed list entry. -/
def shedFields (e : ShedEntry) (s : State) : List LiveField :=
  [ liveNat (e.feeder.val + 1), liveNat e.cls, liveNat (shedReasonCode e.reason), liveNat (feeder e.feeder s).preShed ]

/-- READ-LIVE of record kind shed list entry (R105). An index without an entry is ABSENT whatever the page (log 54). -/
def shedReply (index page : Word) (s : State) : Reply :=
  if index.toNat ≤ 11 then
    match s.sbu.shedList[index.toNat]? with
    | some e => pageReply .done (shedFields e s) page
    | none => refusal .absent
  else refusal .badArgument

/-! ### The saw (R126) -/

/-- A timer of the kind that can be held is frozen, as such or under a suspension. -/
def isFrozen (t : HeldTimer) : Bool :=
  match t with
  | .frozen _ => true
  | .suspended _ frozen => frozen
  | _ => false

/-- Fields of the saw record. The last SAW-CONTACTOR value and its state are those of MIU's record (log 51). -/
def sawFields (s : State) : List LiveField :=
  let d := s.sdu
  [ liveNat (sawStateCode d.state), liveNat (sawReasonCode d.reason), liveNat d.cls, liveBit d.lockout,
    liveNat (permissiveCode d.permissive), liveNat (contactorCode d.contactor) ] ++
  viewFields (miuView .sawContactor 0 s) ++
  [ liveNat (confirmCode d.confirm), liveOpt (heldRemaining d.confirmTimer s), liveOpt (timerRemaining d.starTimer s),
    liveOpt (timerRemaining d.deltaTimer s), liveOpt (timerRemaining d.rundownTimer s),
    liveOpt (heldRemaining d.stallTimer s), liveBit (isFrozen d.stallTimer), liveFlag d.ringCheck,
    liveNat (buttonCode d.button), liveNat d.fSetView, liveNat d.feed, liveOpt d.factorF, liveOpt d.factorI,
    liveNat (entryStateCode d.entryState) ]

/-- READ-LIVE of record kind saw (R126). -/
def sawReply (page : Word) (s : State) : Reply := pageReply .done (sawFields s) page

/-! ### Feeders (R145) -/

/-- Condition of the trip timer: stopped, running, frozen, suspended (R127). -/
def heldCode (t : HeldTimer) : Nat :=
  match t with
  | .stopped => 0
  | .running _ => 1
  | .frozen _ => 2
  | .suspended _ _ => 3

/-- Fields of a feeder record. Present and the limit of the active tier are those of the last GOOD read, and absent before
one; the last FEEDER-BREAKER, FEEDER-CURRENT and FEEDER-POWER values are those of MIU's records, each followed by its
state; the time since the last trip is in ms, truncated, which the manual does not state (log 30, 51). -/
def feederFields (n : Feeder) (s : State) : List LiveField :=
  let r := feeder n s
  [ liveFlag r.desired, liveNat (feederStateCode r.state), liveNat (feederReasonCode r.reason),
    liveNat (entryStateCode r.entryState), liveOpt (r.values.map fun v => falseFirst v.present), liveNat r.cls,
    liveNat (tierCode r.tier), liveOpt (r.values.map fun v => activeLimit v r.tier), liveNat r.preShed,
    liveFlag r.underRestore, liveNat (breakerCommand r) ] ++
  viewFields (miuView .feederBreaker (n.val + 1) s) ++ viewFields (miuView .feederCurrent (n.val + 1) s) ++
  viewFields (miuView .feederPower (n.val + 1) s) ++
  [ liveOpt (heldRemaining r.watch s), liveOpt (timerRemaining r.settle s), liveOpt (heldRemaining r.trip s),
    liveOpt (timerRemaining r.reclose s), liveNat (heldCode r.trip), liveOpt (r.lastTrip.map fun t => (s.now - t) / 1000),
    liveNat s.fcu.overVoltage ]

/-- READ-LIVE of record kind feeder (R145). -/
def feederReply (index page : Word) (s : State) : Reply :=
  match feederOfNumber index with
  | some n => pageReply .done (feederFields n s) page
  | none => refusal .badArgument

/-! ### Accounts (R158) -/

/-- Fields of an account, with the band record. Tier, allowance and metered belong to accounts 1 to 12; the allowance is
present with value 0 where the feeder has had no GOOD read (log 30). -/
def accountFields (i : Fin 14) (s : State) : List LiveField :=
  let a := account i s
  let n := feederOfAccount i
  [ liveNat a.low, liveNat a.standard, liveNat a.peak, liveNat a.daily, liveNat a.remainder, liveFlag a.atMax,
    liveFlag a.gap, liveOpt (n.map fun n => tierCode s.eau.tiers[n]), liveOpt (n.map fun n => allowanceOf n s),
    liveOpt (n.map fun n => falseFirst (feederMetered n s)), liveNat (tariffBandCode s.eau.band),
    liveOpt (s.eau.dayType.map dayTypeCode), liveOpt s.eau.slot, liveNat (basisCode s.eau.basis) ]

/-- READ-LIVE of record kind account (R158). -/
def accountReply (index page : Word) (s : State) : Reply :=
  match accountOfNumber index with
  | some i => pageReply .done (accountFields i s) page
  | none => refusal .badArgument

/-- A read of page 0 of an account clears its metering-gap flag (R158, R196; log 45). -/
def clearGap (index page : Word) (s : State) : State :=
  match accountOfNumber index with
  | some i => if page = 0 then setAccount i { account i s with gap := false } s else s
  | none => s

/-! ### The calendar (R169) -/

/-- The parts of the stamp of the last evaluation record, as R161 lists them; the validity flag comes last. -/
def evaluationWords (t : Stamp) : List Nat := stampWords t ++ [weekdayCode t.weekday, trueFirst t.valid]

/-- Fields of the calendar record. The time to the next rollover truncates the divider to ms and then subtracts; R169 leaves
open whether the divider or the difference is truncated, and this is the model's choice (log 30). -/
def calendarFields (s : State) : List LiveField :=
  let c := s.csu
  [ liveNat c.year, liveNat c.month, liveNat c.day, liveNat c.hour, liveNat c.minute, liveNat c.second,
    liveNat (weekdayCode c.weekday), liveFlag c.valid, liveNat (1000 - c.divider / 1000),
    liveBit (table .schedule s).pending ] ++
  liveParts 7 (c.lastEvaluation.map fun e => evaluationWords e.stamp) ++
  [ liveList (c.lastEvaluation.map (·.ran)), liveList (c.lastEvaluation.map (·.skipped)) ]

/-- READ-LIVE of record kind calendar (R169). -/
def calendarReply (page : Word) (s : State) : Reply := pageReply .done (calendarFields s) page

/-! ### The damaged-entry list and the last correction (R181) -/

/-- Table id of a table (R171). -/
def tableId (t : TableId) : Nat := (tableIndex t).val + 1

/-- Fields of a damaged-list record, absent beyond the list, with the list length and the overflow flag. -/
def damagedFields (d : Option DamagedRef) (s : State) : List LiveField :=
  [ liveOpt (d.map fun d => tableId d.table), liveOpt (d.map fun d => bankCode d.bank),
    liveOpt (d.map fun d => roleCode (roleOf (table d.table s) d.bank)), liveOpt (d.map (·.index)),
    liveNat s.tbs.damagedList.length, liveBit s.tbs.overflow ]

/-- READ-LIVE of record kind damaged-list entry (R181). An index without a record is ABSENT with a page of its fields, so a
page beyond them is BAD-ARGUMENT (log 54). -/
def damagedReply (index page : Word) (s : State) : Reply :=
  if index.toNat ≤ 15 then
    let d := s.tbs.damagedList[index.toNat]?
    pageReply (if d.isSome then .done else .absent) (damagedFields d s) page
  else refusal .badArgument

/-- Fields of the last-correction record (R177); its one row "A or B, with its role" is two fields, the bank and the role
(log 30). -/
def correctionFields (c : Correction) (count : Nat) : List LiveField :=
  [ liveNat (tableId c.table), liveNat (bankCode c.bank), liveNat (roleCode c.role), liveNat c.index,
    liveNat c.syndrome.toNat, liveNat count ]

/-- READ-LIVE of record kind last correction (R181). With no record it is ABSENT whatever the page (log 54). -/
def correctionReply (page : Word) (s : State) : Reply :=
  match s.tbs.lastCorrection with
  | some c => pageReply .done (correctionFields c s.tbs.corrections) page
  | none => refusal .absent

/-! ### The moment of a read (R196) -/

/-- What a read event is answered with from the records as they stand; none for an event that reads no record. -/
def readReply (e : Instr) (s : State) : Option Reply :=
  match e with
  | .readLiveQuantity index page => some (quantityReply index page s)
  | .readLiveRegulator page => some (regulatorReply page s)
  | .readLivePlant page => some (plantReply page s)
  | .readLiveClaimListEntry index page => some (claimReply index page s)
  | .readLiveShedListEntry index page => some (shedReply index page s)
  | .readLiveSaw page => some (sawReply page s)
  | .readLiveFeeder index page => some (feederReply index page s)
  | .readLiveAccount index page => some (accountReply index page s)
  | .readLiveCalendar page => some (calendarReply page s)
  | .readLiveDamagedListEntry index page => some (damagedReply index page s)
  | .readLiveLastCorrection page => some (correctionReply page s)
  | .summaryRead index page => some (summaryReply index page s)
  | _ => none

/-- The reading that MMB holds of a read request it has taken, as the record stood then (R196). -/
def takenReply (e : Instr) (s : State) : Option Reply :=
  match s.mmb.reading with
  | some r => if r.event = e then some (r.status, r.words) else none
  | none => none

/-- The owner answers a read from the record as it stood when MMB took the request (R196). A read that no request stands
for is answered from the record as it stands (log 45). -/
def answerRead (e : Instr) (s : State) : State :=
  match takenReply e s with
  | some r => issue (.ownerAnswer r.1 r.2) s
  | none =>
    match readReply e s with
    | some r => issue (.ownerAnswer r.1 r.2) s
    | none => s

/-! ### Meanings -/

/-- READ_LIVE_QUANTITY (R36; log 45). -/
def execReadLiveQuantity (index page : Word) (s : State) : Host.Outcome State Fault Refusal :=
  .next (powered s (answerRead (.readLiveQuantity index page) (take (.readLiveQuantity index page) s)))

/-- READ_LIVE_REGULATOR (R58; log 45). -/
def execReadLiveRegulator (page : Word) (s : State) : Host.Outcome State Fault Refusal :=
  .next (powered s (answerRead (.readLiveRegulator page) (take (.readLiveRegulator page) s)))

/-- READ_LIVE_PLANT (R81; log 45). -/
def execReadLivePlant (page : Word) (s : State) : Host.Outcome State Fault Refusal :=
  .next (powered s (answerRead (.readLivePlant page) (take (.readLivePlant page) s)))

/-- READ_LIVE_CLAIM_LIST_ENTRY (R105; log 45). -/
def execReadLiveClaimListEntry (index page : Word) (s : State) : Host.Outcome State Fault Refusal :=
  .next (powered s (answerRead (.readLiveClaimListEntry index page) (take (.readLiveClaimListEntry index page) s)))

/-- READ_LIVE_SHED_LIST_ENTRY (R105; log 45). -/
def execReadLiveShedListEntry (index page : Word) (s : State) : Host.Outcome State Fault Refusal :=
  .next (powered s (answerRead (.readLiveShedListEntry index page) (take (.readLiveShedListEntry index page) s)))

/-- READ_LIVE_SAW (R126; log 45). -/
def execReadLiveSaw (page : Word) (s : State) : Host.Outcome State Fault Refusal :=
  .next (powered s (answerRead (.readLiveSaw page) (take (.readLiveSaw page) s)))

/-- READ_LIVE_FEEDER (R145; log 45). -/
def execReadLiveFeeder (index page : Word) (s : State) : Host.Outcome State Fault Refusal :=
  .next (powered s (answerRead (.readLiveFeeder index page) (take (.readLiveFeeder index page) s)))

/-- READ_LIVE_ACCOUNT (R158; log 45): the flag is cleared after it has been placed in the answer. -/
def execReadLiveAccount (index page : Word) (s : State) : Host.Outcome State Fault Refusal :=
  .next (powered s (clearGap index page
    (answerRead (.readLiveAccount index page) (take (.readLiveAccount index page) s))))

/-- READ_LIVE_CALENDAR (R169; log 45). -/
def execReadLiveCalendar (page : Word) (s : State) : Host.Outcome State Fault Refusal :=
  .next (powered s (answerRead (.readLiveCalendar page) (take (.readLiveCalendar page) s)))

/-- READ_LIVE_DAMAGED_LIST_ENTRY (R181; log 45). -/
def execReadLiveDamagedListEntry (index page : Word) (s : State) : Host.Outcome State Fault Refusal :=
  .next (powered s (answerRead (.readLiveDamagedListEntry index page) (take (.readLiveDamagedListEntry index page) s)))

/-- READ_LIVE_LAST_CORRECTION (R181; log 45). -/
def execReadLiveLastCorrection (page : Word) (s : State) : Host.Outcome State Fault Refusal :=
  .next (powered s (answerRead (.readLiveLastCorrection page) (take (.readLiveLastCorrection page) s)))

/-- SUMMARY_READ (R58; log 45). -/
def execSummaryRead (index page : Word) (s : State) : Host.Outcome State Fault Refusal :=
  .next (powered s (answerRead (.summaryRead index page) (take (.summaryRead index page) s)))

end Sys2Proof.Machine
end

