-- ==== Sys2Proof/Machine/Mailbox.lean ====
section
/-! DEFINITION. Management Mailbox: taking a request, authorisation, routing, the response, and attention (spec/11,
R183 to R191). -/

namespace Sys2Proof.Machine

/-- Changes MMB's record. -/
def updMmb (f : Mmb → Mmb) (s : State) : State := { s with mmb := f s.mmb }

/-! ### Authorisation (R186) -/

/-- Whether a request kind code is of the read class (R186; Formats). -/
def isReadKind (kind : Nat) : Bool := kind = 1 || kind = 5 || kind = 11 || kind = 12

/-- Whether a code is a request kind (Formats: 1 to 14). -/
def isRequestKind (kind : Nat) : Bool := within 1 14 kind

/-- The list of a PROTECTION entry's positions: an empty list stands for every position (R186). -/
def authListOf (set : BitVec 31) : AuthList := if set = 0 then .every else .positions set

/-- The authorised list in use after MMB's read of the PROTECTION entry (R186). -/
def authAfterRead (r : ReadResult) (m : Mmb) : Mmb :=
  match r with
  | .good img =>
    { m with authInUse := authListOf (protectionEntry img).positions,
             lastGoodAuth := some (protectionEntry img).positions }
  | .empty => { m with authInUse := .every }
  | .damaged => { m with authInUse := (m.lastGoodAuth.map authListOf).getD .every }

/-- MMB reads the active PROTECTION entry and sets its list in use (R186). -/
def readAuth (s : State) : State :=
  let (r, s) := readActive .protection 1 s
  updMmb (authAfterRead r) s

/-- A position is authorised by the list in use (R186). -/
def authorised (k : Nat) (m : Mmb) : Bool :=
  match m.authInUse with
  | .none => false
  | .every => true
  | .positions set => set.getLsbD (k - 1)

/-! ### Routing (R187) -/

/-- A byte of a word. -/
def byteOf (w : Word) (low : Nat) : Byte := w.extractLsb' low 8

/-- The READ-LIVE event of a record kind, or none for a kind that no block owns (R187; Formats). -/
def liveEvent (kind : Nat) (index page : Word) : Option Instr :=
  match kind with
  | 1 => some (.readLiveQuantity index page)
  | 2 => some (.readLiveRegulator page)
  | 3 => some (.readLivePlant page)
  | 4 => some (.readLiveClaimListEntry index page)
  | 5 => some (.readLiveShedListEntry index page)
  | 6 => some (.readLiveSaw page)
  | 7 => some (.readLiveFeeder index page)
  | 8 => some (.readLiveAccount index page)
  | 9 => some (.readLiveCalendar page)
  | 10 => some (.readLiveDamagedListEntry index page)
  | 11 => some (.readLiveLastCorrection page)
  | _ => none

/-- The PLANT event of an action (R62; Formats). -/
def plantEvent (action : Nat) : Option Instr :=
  match action with
  | 1 => some .plantStart
  | 2 => some .plantStop
  | 3 => some .plantTrip
  | 4 => some .plantRestart
  | 5 => some .plantEnterCommission
  | 6 => some .plantLeaveCommission
  | _ => none

/-- The SAW event of an action (R126; Formats). -/
def sawEvent (action : Nat) : Option Instr :=
  match action with
  | 1 => some .sawStart
  | 2 => some .sawStop
  | 3 => some .sawClear
  | _ => none

/-- The FEEDER event of an action (R145; Formats). -/
def feederEvent (number : Word) (action : Nat) : Option Instr :=
  match action with
  | 1 => some (.feederWantOn .management number)
  | 2 => some (.feederWantOff .management number)
  | 3 => some (.feederClear number)
  | _ => none

/-- The entry image of a WRITE-ENTRY request: data words 1 to 7 (Formats). -/
def imageOf (w : Words) : Image := Vec.ofFn fun i => w.toList.getD (i.val + 1) 0

/-- The event that hands a request to its owner (R187; Formats), or none where the kind, the action or the record kind
has no code. Bits of the data words that Formats gives to no field of the kind are ignored (log 53). -/
def requestEvent (kind : Nat) (w : Words) : Option Instr :=
  let d := fun (i : Nat) => w.toList.getD i 0
  match kind with
  | 1 => some (.readEntry (byteOf (d 0) 24) (if (d 0).getLsbD 16 then .standby else .active) (byteOf (d 0) 0))
  | 2 => some (.writeEntry (byteOf (d 0) 24) (byteOf (d 0) 0) ((d 0).getLsbD 16) (imageOf w))
  | 3 => some (.copyActive (byteOf (d 0) 24))
  | 4 => some (.swap (byteOf (d 0) 24) (byteOf (d 0) 0))
  | 5 => liveEvent (d 0).toNat (d 1) (d 2)
  | 6 => plantEvent (d 0).toNat
  | 7 => sawEvent (d 0).toNat
  | 8 => feederEvent (d 0) (d 1).toNat
  | 9 => some (.calendarSet (d 0) (d 1) (d 2) (d 3) (d 4) (d 5))
  | 10 => some (.accountReset (d 0))
  | 11 => some (.summaryRead (d 0) (d 1))
  | 12 => some .attentionRead
  | 13 => some (.attentionClear (d 0))
  | 14 => some (.attentionMask (d 0))
  | _ => none

/-! ### Taking a request (R184, R185, R188) -/

/-- MMB forms a response itself, with data words 0 (R185 case 4, R186, R187). A SWAP that it refuses so carries no generation
and no mark: that R174's words on every answer to SWAP speak of TBS's answers alone is the model's choice (log 17). -/
def respond (r : RequestRegion) (status : Status) (s : State) : State :=
  updMmb (fun m => { m with
    response := some { addressee := r.owner, tag := r.tag, status := status, words := wordsOf [] } }) s

/-- The reading of a request that reads a record, from the records as they stand when MMB takes it (R36, R196;
log 45). -/
def readingOf (e : Instr) (s : State) : Option Reading :=
  (readReply e s).map fun r => { event := e, status := r.1, words := r.2 }

/-- The request is handed to its owner and is outstanding (R187, R188); what a read returns is fixed here (R196). An
action of PLANT, SAW or FEEDER without a code is refused by its owner BAD-ARGUMENT (log 17). -/
def route (r : RequestRegion) (s : State) : State :=
  let s' := updMmb (fun m => { m with outstanding := some (r.owner, r.tag) }) s
  match requestEvent r.kind.toNat r.words with
  | some e => issue e (updMmb (fun m => { m with reading := readingOf e s }) s')
  | none => if r.kind.toNat = 5 then respond r .badArgument s else answer .badArgument [] s'

/-- A taken request is judged (R186): its kind, then its authorisation for the control and write class. -/
def judgeRequest (r : RequestRegion) (s : State) : State :=
  if isRequestKind r.kind.toNat then
    if isReadKind r.kind.toNat then route r s
    else
      let s := readAuth s
      if authorised r.owner.toNat s.mmb then route r s else respond r .refusedAuth s
  else respond r .badArgument s

/-- The eligible-from position after a request of a position has been taken (R184). -/
def nextEligible (k : Nat) : Nat := if k = 31 then 1 else k + 1

/-- MMB takes a returned request region by the first case that applies (R185). -/
def requestRegion (r : RequestRegion) (s : State) : State :=
  if r.owner = 0xFF#8 then updMmb (fun m => { m with eligibleFrom := 1 }) s
  else if r.owner = 0 ∨ 31 < r.owner.toNat then s
  else if s.mmb.response.isSome ∨ s.mmb.outstanding.isSome then s
  else if r.owner.toNat < r.eligibleFrom then respond r .busy s
  else judgeRequest r (updMmb (fun m => { m with eligibleFrom := nextEligible r.owner.toNat }) s)

/-- The owner's answer reaches MMB (R188); with no request outstanding it is dropped (log 38). -/
def ownerAnswer (status : Status) (words : Words) (s : State) : State :=
  match s.mmb.outstanding with
  | some (owner, tag) =>
    updMmb (fun m => { m with
      outstanding := none
      reading := none
      response := some { addressee := owner, tag := tag, status := status, words := words } }) s
  | none => s

/-! ### Attention (R189 to R191) -/

/-- A cause is latched (R189). -/
def latchCause (c : Cause) (s : State) : State := updMmb (fun m => { m with latch := m.latch ||| causeSet c }) s

/-- The data words of an attention answer: latch, mask, marker (Formats). -/
def attentionWords (m : Mmb) : List Word :=
  [m.latch.setWidth 32, m.mask.setWidth 32, if attentionMarker m then 1 else 0]

/-- The answer of an attention request, with the latch, the mask and the marker as they stand (R191). -/
def answerAttention (s : State) : State := answer .done (attentionWords s.mmb) s

/-- The clear notices of a cleared set (R191). -/
def clearNotices (set : BitVec 21) : List Instr :=
  (if set.getLsbD (causeBit .regSaturated) then [.frgClearNotice .regSaturated] else []) ++
  (if set.getLsbD (causeBit .compositionShortfall) then [.frgClearNotice .compositionShortfall] else [])

/-- ATTENTION-CLEAR (R191). -/
def attentionClear (causes : Word) (s : State) : State :=
  if causeSetValid causes then
    answerAttention
      (issueAll (clearNotices (causeSetOf causes))
        (updMmb (fun m => { m with latch := m.latch &&& ~~~causeSetOf causes }) s))
  else answer .badArgument [] s

/-- ATTENTION-MASK (R191). -/
def attentionMask (causes : Word) (s : State) : State :=
  if causeSetValid causes then answerAttention (updMmb (fun m => { m with mask := causeSetOf causes }) s)
  else answer .badArgument [] s

/-! ### Meanings -/

/-- MMB_REQUEST_REGION (R185). -/
def execMmbRequestRegion (region : RequestRegion) (s : State) : Host.Outcome State Fault Refusal :=
  .next (powered s (requestRegion region (take (.mmbRequestRegion region) s)))

/-- OWNER_ANSWER (R188). -/
def execOwnerAnswer (status : Status) (words : Words) (s : State) : Host.Outcome State Fault Refusal :=
  .next (powered s (ownerAnswer status words (take (.ownerAnswer status words) s)))

/-- MMB_RING_DOWN (R13, R189): MMB itself latches RING-DOWN. -/
def execMmbRingDown (s : State) : Host.Outcome State Fault Refusal :=
  .next (powered s (latchCause .ringDown (take .mmbRingDown s)))

/-- LATCH_NOTICE (R189). -/
def execLatchNotice (cause : Cause) (s : State) : Host.Outcome State Fault Refusal :=
  .next (powered s (latchCause cause (take (.latchNotice cause) s)))

/-- ATTENTION_READ (R191). -/
def execAttentionRead (s : State) : Host.Outcome State Fault Refusal :=
  .next (powered s (answerAttention (take .attentionRead s)))

/-- ATTENTION_CLEAR (R191). -/
def execAttentionClear (causes : Word) (s : State) : Host.Outcome State Fault Refusal :=
  .next (powered s (attentionClear causes (take (.attentionClear causes) s)))

/-- ATTENTION_MASK (R191). -/
def execAttentionMask (causes : Word) (s : State) : Host.Outcome State Fault Refusal :=
  .next (powered s (attentionMask causes (take (.attentionMask causes) s)))

end Sys2Proof.Machine
end

