-- ==== Sys2Proof/Machine/Resets.lean ====
section
/-! DEFINITION. The three starts and the losses of the two supplies (00_scope, Resets; R1, R14, R21, R31, R37, R60, R82,
R106, R127, R146, R152, R159, R162, R169, R177, R182, R183). -/

namespace Sys2Proof.Machine

/-! ### The volatile state of each block -/

/-- TSU after a reset, before its end-of-reset reads: the trip latch, cause and stamp are kept, and the mode follows
the latch (R60). -/
def tsuKept (t : Tsu) : Tsu :=
  { Tsu.reset with
    mode := if t.tripLatch then .tripped else .standby
    tripLatch := t.tripLatch, tripCause := t.tripCause, tripStamp := t.tripStamp }

/-- FCU after a reset, before its end-of-reset reads: the desired states are kept and the tiers are EAU's (R127). -/
def fcuKept (f : Fcu) (tiers : Vector Tier 12) : Fcu :=
  { feeders := Vec.ofFn fun n => FeederRecord.reset f.feeders[n].desired tiers[n], overVoltage := 0 }

/-- Every block with its volatile state at its reset value and its retained state kept; nothing is in flight (log 8). -/
def resetBlocks (s : State) : State :=
  { s with
    issued := [], mainPresent := true, retentionHeld := true
    rif := Rif.reset s.now Config.defaultPeriod
    miu := Miu.reset, frg := Frg.reset, tsu := tsuKept s.tsu, sbu := Sbu.reset, sdu := Sdu.reset s.permissivePin
    fcu := fcuKept s.fcu s.eau.tiers
    csu := { s.csu with lastEvaluation := none }
    tbs := { s.tbs with lastCorrection := none, corrections := 0 }
    mmb := Mmb.reset }

/-! ### The reads and writes at the end of a reset -/

/-- RIF reads the header and arms its timer with the period in use (R1). -/
def resetRif (s : State) : State :=
  let s := readHeader s
  { s with rif := { s.rif with roundTimer := startTimer s.rif.period s } }

/-- TSU's PROTECTION read at the end of a reset: a GOOD one sets the values in force, and a DAMAGED one is left for the
first capture or sample set (R60). -/
def resetProtection (s : State) : State :=
  match readActive .protection 1 s with
  | (.good img, s) => updTsu (fun t => { t with protection := some (protectionEntry img) }) s
  | (_, s) => s

/-- TSU's reads and writes (R60). -/
def resetTsu (s : State) : State := writeModeCommands (setGate 0 (resetProtection (readTurbine s)))

/-- FRG's mode, reads and composition (R37). -/
def resetFrg (s : State) : State :=
  let s := updFrg (fun f => { f with mode := s.tsu.mode }) s
  if s.tsu.mode = .tripped then recompose .forcedFull id s else recompose .hold (fun _ => 0) s

/-- The saw's class from the default class of a GOOD read (R106, R124). -/
def defaultClass (r : ReadResult) : Nat :=
  match r with
  | .good img => (sawEntry img).defaultClass
  | _ => 7

/-- SDU's read, class and writes (R106). -/
def resetSdu (s : State) : State :=
  let (r, s) := readActive .saw 1 (takePending .saw s)
  updHolding (fun h => { h with sawContactor := some 0, feed := some 0 })
    (updSdu (fun d => { d with cls := defaultClass r }) (recordSawRead r s))

/-- FCU's reads and writes (R127, R130), the entries in rising number (log 55). -/
def resetFcu (s : State) : State :=
  eachFeeder (fun n s =>
    let (r, s) := readActive .feeders (n.val + 1) s
    putFeeder n (recordFeederRead r (feeder n s)) s) (takePending .feeders s)

/-- EAU evaluates the band without taking any swap (R152). -/
def resetEau (s : State) : State := evaluateBand (stampOf s.csu) s

/-- The set of the causes of the latch notices in a list of events. -/
def noticedCauses (es : List Instr) : BitVec 21 :=
  es.foldl (fun set e =>
    match e with
    | .latchNotice c => set ||| causeSet c
    | _ => set) 0

/-- MMB takes the latch notices that the end-of-reset reads issued, within the reset (R183; log 7). -/
def absorbNotices (s : State) : State :=
  { updMmb (fun m => { m with latch := m.latch ||| noticedCauses s.issued }) s with issued := [] }

/-- A start: every block takes its reset values, then the owners read and write as their rules give (R4), in the order
RIF, TSU, FRG, SBU, SDU, FCU, EAU. The order among them fixes the order of detection in the damaged-entry list and which
correction is the last one, and is the model's choice (log 52). -/
def startUp (s : State) : State :=
  absorbNotices (resetEau (resetFcu (resetSdu (readBalance (resetFrg (resetTsu (resetRif (resetBlocks s))))))))

/-! ### The retained domain -/

/-- The retained domain as a power-on with retention lost sets it: the trip latch, cause and stamp (R60), the desired
states (R127), the accounts and tiers (R146), the calendar (R159) and the tables (R182). -/
def clearRetained (s : State) : State :=
  { s with
    tsu := { s.tsu with tripLatch := false, tripCause := none, tripStamp := none }
    fcu := { s.fcu with feeders := Vec.ofFn fun n => { s.fcu.feeders[n] with desired := false } }
    eau := Eau.reset, csu := Csu.reset, tbs := Tbs.reset }

/-- Power-on with retention kept (R60): it needs a retained domain that was held (log 10). -/
def powerOnKept (s : State) : State := if s.retentionHeld then startUp s else s

/-- Power-on with retention lost (R182): CSU latches RETAIN-LOST (R162). -/
def powerOnLost (s : State) : State := latchCause .retainLost (startUp (clearRetained s))

/-- The main supply fails (R60, R159): the part stops, and nothing in flight survives (log 8). -/
def mainSupplyLoss (s : State) : State := { s with mainPresent := false, issued := [] }

/-- The backup supply falls below its minimum while the main supply is absent (R159; log 11). -/
def backupSupplyLoss (s : State) : State :=
  if s.mainPresent then s else { clearRetained s with retentionHeld := false }

/-! ### Meanings -/

/-- WARM_RESET (R60). -/
def execWarmReset (s : State) : Host.Outcome State Fault Refusal := .next (powered s (startUp s))

/-- POWER_ON_RETENTION_KEPT (R60). -/
def execPowerOnRetentionKept (s : State) : Host.Outcome State Fault Refusal := .next (powerOnKept s)

/-- POWER_ON_RETENTION_LOST (R182). -/
def execPowerOnRetentionLost (s : State) : Host.Outcome State Fault Refusal := .next (powerOnLost s)

/-- MAIN_SUPPLY_LOSS (R60, R159). -/
def execMainSupplyLoss (s : State) : Host.Outcome State Fault Refusal := .next (mainSupplyLoss s)

/-- BACKUP_SUPPLY_LOSS (R159). -/
def execBackupSupplyLoss (s : State) : Host.Outcome State Fault Refusal := .next (backupSupplyLoss s)

end Sys2Proof.Machine
end

