-- ==== Sys2Proof/Machine/Dispatch.lean ====
section
/-! DEFINITION. The meaning of each command: one arm per constructor of Instr. -/

namespace Sys2Proof.Machine

def exec (i : Instr) (s : State) : Host.Outcome State Fault Refusal :=
  match i with
  | .warmReset => Sys2Proof.Machine.execWarmReset s
  | .powerOnRetentionKept => Sys2Proof.Machine.execPowerOnRetentionKept s
  | .powerOnRetentionLost => Sys2Proof.Machine.execPowerOnRetentionLost s
  | .mainSupplyLoss => Sys2Proof.Machine.execMainSupplyLoss s
  | .roundTimerExpiry => Sys2Proof.Machine.execRoundTimerExpiry s
  | .frameArrival bytes => Sys2Proof.Machine.execFrameArrival bytes s
  | .ringInIdle bytes => Sys2Proof.Machine.execRingInIdle bytes s
  | .miuRoundClosure c => Sys2Proof.Machine.execMiuRoundClosure c s
  | .shaftRisingEdge elapsed => Sys2Proof.Machine.execShaftRisingEdge elapsed s
  | .overdueTimerExpiry => Sys2Proof.Machine.execOverdueTimerExpiry s
  | .lossTimerExpiry => Sys2Proof.Machine.execLossTimerExpiry s
  | .frgSampleSet set => Sys2Proof.Machine.execFrgSampleSet set s
  | .frgModeNotice old new => Sys2Proof.Machine.execFrgModeNotice old new s
  | .frgSecondEvent => Sys2Proof.Machine.execFrgSecondEvent s
  | .frgMinuteEvent stamp => Sys2Proof.Machine.execFrgMinuteEvent stamp s
  | .frgClearNotice notice => Sys2Proof.Machine.execFrgClearNotice notice s
  | .plantStart => Sys2Proof.Machine.execPlantStart s
  | .plantStop => Sys2Proof.Machine.execPlantStop s
  | .plantTrip => Sys2Proof.Machine.execPlantTrip s
  | .plantRestart => Sys2Proof.Machine.execPlantRestart s
  | .plantEnterCommission => Sys2Proof.Machine.execPlantEnterCommission s
  | .plantLeaveCommission => Sys2Proof.Machine.execPlantLeaveCommission s
  | .tsuSecondEvent => Sys2Proof.Machine.execTsuSecondEvent s
  | .startTimerExpiry => Sys2Proof.Machine.execStartTimerExpiry s
  | .dwellTimerExpiry => Sys2Proof.Machine.execDwellTimerExpiry s
  | .tsuSampleSet set => Sys2Proof.Machine.execTsuSampleSet set s
  | .tsuCapture capture => Sys2Proof.Machine.execTsuCapture capture s
  | .tsuShaftLossNotice => Sys2Proof.Machine.execTsuShaftLossNotice s
  | .tsuRoundClosure c => Sys2Proof.Machine.execTsuRoundClosure c s
  | .tsuBallastUpdate update => Sys2Proof.Machine.execTsuBallastUpdate update s
  | .tsuSecondReport report => Sys2Proof.Machine.execTsuSecondReport report s
  | .shareBand low high => Sys2Proof.Machine.execShareBand low high s
  | .sbuBallastUpdate update => Sys2Proof.Machine.execSbuBallastUpdate update s
  | .sbuSampleSet set => Sys2Proof.Machine.execSbuSampleSet set s
  | .sawClaimRequest amount cls => Sys2Proof.Machine.execSawClaimRequest amount cls s
  | .waitTimerExpiry holder => Sys2Proof.Machine.execWaitTimerExpiry holder s
  | .holdTimerExpiry holder => Sys2Proof.Machine.execHoldTimerExpiry holder s
  | .sbuClassNotice holder cls => Sys2Proof.Machine.execSbuClassNotice holder cls s
  | .shedPauseTimerExpiry => Sys2Proof.Machine.execShedPauseTimerExpiry s
  | .restoreGapTimerExpiry => Sys2Proof.Machine.execRestoreGapTimerExpiry s
  | .sbuModeNotice old new => Sys2Proof.Machine.execSbuModeNotice old new s
  | .sduSampleSet set => Sys2Proof.Machine.execSduSampleSet set s
  | .sawStart => Sys2Proof.Machine.execSawStart s
  | .sawStop => Sys2Proof.Machine.execSawStop s
  | .sawClear => Sys2Proof.Machine.execSawClear s
  | .sawClaimAnswer answer => Sys2Proof.Machine.execSawClaimAnswer answer s
  | .sawGranted => Sys2Proof.Machine.execSawGranted s
  | .starTimerExpiry => Sys2Proof.Machine.execStarTimerExpiry s
  | .deltaSettleTimerExpiry => Sys2Proof.Machine.execDeltaSettleTimerExpiry s
  | .confirmTimerExpiry => Sys2Proof.Machine.execConfirmTimerExpiry s
  | .stallTimerExpiry => Sys2Proof.Machine.execStallTimerExpiry s
  | .rundownTimerExpiry => Sys2Proof.Machine.execRundownTimerExpiry s
  | .permissiveChange level => Sys2Proof.Machine.execPermissiveChange level s
  | .sduRingDown => Sys2Proof.Machine.execSduRingDown s
  | .shedOrder => Sys2Proof.Machine.execShedOrder s
  | .noHeadroom => Sys2Proof.Machine.execNoHeadroom s
  | .sduModeNotice old new => Sys2Proof.Machine.execSduModeNotice old new s
  | .sduBallastUpdate update => Sys2Proof.Machine.execSduBallastUpdate update s
  | .sawClass cls => Sys2Proof.Machine.execSawClass cls s
  | .sawLockout on => Sys2Proof.Machine.execSawLockout on s
  | .fcuSampleSet set => Sys2Proof.Machine.execFcuSampleSet set s
  | .feederGranted n => Sys2Proof.Machine.execFeederGranted n s
  | .breakerWatchTimerExpiry n => Sys2Proof.Machine.execBreakerWatchTimerExpiry n s
  | .settleTimerExpiry n => Sys2Proof.Machine.execSettleTimerExpiry n s
  | .tripTimerExpiry n => Sys2Proof.Machine.execTripTimerExpiry n s
  | .recloseTimerExpiry n => Sys2Proof.Machine.execRecloseTimerExpiry n s
  | .feederWantOn origin number => Sys2Proof.Machine.execFeederWantOn origin number s
  | .feederWantOff origin number => Sys2Proof.Machine.execFeederWantOff origin number s
  | .feederClear number => Sys2Proof.Machine.execFeederClear number s
  | .tierNotice n tier => Sys2Proof.Machine.execTierNotice n tier s
  | .fcuRingDown => Sys2Proof.Machine.execFcuRingDown s
  | .fcuRingUp => Sys2Proof.Machine.execFcuRingUp s
  | .fcuModeNotice old new => Sys2Proof.Machine.execFcuModeNotice old new s
  | .eauSampleSet set => Sys2Proof.Machine.execEauSampleSet set s
  | .eauMeteringReport energy power => Sys2Proof.Machine.execEauMeteringReport energy power s
  | .eauMinuteEvent stamp => Sys2Proof.Machine.execEauMinuteEvent stamp s
  | .dayBoundary => Sys2Proof.Machine.execDayBoundary s
  | .accountReset number => Sys2Proof.Machine.execAccountReset number s
  | .dividerRollover => Sys2Proof.Machine.execDividerRollover s
  | .csuMinuteEvent stamp => Sys2Proof.Machine.execCsuMinuteEvent stamp s
  | .calendarSet year month day hour minute second => Sys2Proof.Machine.execCalendarSet year month day hour minute second s
  | .writeEntry table index emptyMark image => Sys2Proof.Machine.execWriteEntry table index emptyMark image s
  | .copyActive table => Sys2Proof.Machine.execCopyActive table s
  | .swap table generation => Sys2Proof.Machine.execSwap table generation s
  | .readEntry table role index => Sys2Proof.Machine.execReadEntry table role index s
  | .readLiveQuantity index page => Sys2Proof.Machine.execReadLiveQuantity index page s
  | .readLiveRegulator page => Sys2Proof.Machine.execReadLiveRegulator page s
  | .readLivePlant page => Sys2Proof.Machine.execReadLivePlant page s
  | .readLiveClaimListEntry index page => Sys2Proof.Machine.execReadLiveClaimListEntry index page s
  | .readLiveShedListEntry index page => Sys2Proof.Machine.execReadLiveShedListEntry index page s
  | .readLiveSaw page => Sys2Proof.Machine.execReadLiveSaw page s
  | .readLiveFeeder index page => Sys2Proof.Machine.execReadLiveFeeder index page s
  | .readLiveAccount index page => Sys2Proof.Machine.execReadLiveAccount index page s
  | .readLiveCalendar page => Sys2Proof.Machine.execReadLiveCalendar page s
  | .readLiveDamagedListEntry index page => Sys2Proof.Machine.execReadLiveDamagedListEntry index page s
  | .readLiveLastCorrection page => Sys2Proof.Machine.execReadLiveLastCorrection page s
  | .summaryRead index page => Sys2Proof.Machine.execSummaryRead index page s
  | .mmbRequestRegion region => Sys2Proof.Machine.execMmbRequestRegion region s
  | .ownerAnswer status words => Sys2Proof.Machine.execOwnerAnswer status words s
  | .mmbRingDown => Sys2Proof.Machine.execMmbRingDown s
  | .latchNotice cause => Sys2Proof.Machine.execLatchNotice cause s
  | .attentionRead => Sys2Proof.Machine.execAttentionRead s
  | .attentionClear causes => Sys2Proof.Machine.execAttentionClear causes s
  | .attentionMask causes => Sys2Proof.Machine.execAttentionMask causes s
  | .backupSupplyLoss => Sys2Proof.Machine.execBackupSupplyLoss s

end Sys2Proof.Machine
end

