-- ==== Sys2Proof/Machine/Timebase.lean ====
section
/-! DEFINITION. What the part does of itself when no command waits and no event is in flight: the expiry of a due timer,
or one microsecond of the timebase (log 1). -/

namespace Sys2Proof.Machine

/-! ### Due timers -/

/-- A running timer's deadline has come. -/
def timerDue (now : Nat) (t : Timer) : Bool :=
  match t with
  | .stopped => false
  | .running d => decide (d ≤ now)

/-- The deadline of a running timer that can be held has come. -/
def heldDue (now : Nat) (t : HeldTimer) : Bool :=
  match t with
  | .running d => decide (d ≤ now)
  | _ => false

/-- The dwell timer's deadline has come. -/
def dwellDue (now : Nat) (t : DwellTimer) : Bool :=
  match t with
  | .running d => decide (d ≤ now)
  | _ => false

/-- The expiry of a claim record whose wait or hold time has come (R90, R91). -/
def claimDue (now : Nat) (c : Claim) : Option Instr :=
  match c.state with
  | .queued since limit => if since + limit * 1000 ≤ now then some (.waitTimerExpiry c.holder) else none
  | .granted hold => if timerDue now hold then some (.holdTimerExpiry c.holder) else none

/-- The expiries due at a feeder. -/
def feederDue (now : Nat) (n : Feeder) (r : FeederRecord) : List Instr :=
  (if heldDue now r.watch then [.breakerWatchTimerExpiry n] else []) ++
  (if timerDue now r.settle then [.settleTimerExpiry n] else []) ++
  (if heldDue now r.trip then [.tripTimerExpiry n] else []) ++
  (if timerDue now r.reclose then [.recloseTimerExpiry n] else [])

/-- An expiry of a list, where it is due. -/
def dueIf (b : Bool) (c : Instr) : List Instr := if b then [c] else []

/-- The expiries due of the volatile timers, in the order in which the model takes them; a loss before the overdue of
the same time (log 1). -/
def dueTimers (s : State) : List Instr :=
  dueIf (timerDue s.now s.rif.roundTimer) .roundTimerExpiry ++
  dueIf (timerDue s.now s.miu.shaft.loss) .lossTimerExpiry ++
  dueIf (timerDue s.now s.miu.shaft.overdue) .overdueTimerExpiry ++
  dueIf (timerDue s.now s.tsu.startTimer) .startTimerExpiry ++
  dueIf (dwellDue s.now s.tsu.dwell) .dwellTimerExpiry ++
  (claims s).filterMap (claimDue s.now) ++
  dueIf (timerDue s.now s.sbu.shedPause) .shedPauseTimerExpiry ++
  dueIf (timerDue s.now s.sbu.restoreGap) .restoreGapTimerExpiry ++
  dueIf (timerDue s.now s.sdu.starTimer) .starTimerExpiry ++
  dueIf (timerDue s.now s.sdu.deltaTimer) .deltaSettleTimerExpiry ++
  dueIf (heldDue s.now s.sdu.confirmTimer) .confirmTimerExpiry ++
  dueIf (heldDue s.now s.sdu.stallTimer) .stallTimerExpiry ++
  dueIf (timerDue s.now s.sdu.rundownTimer) .rundownTimerExpiry ++
  (List.finRange 12).flatMap fun n => feederDue s.now n (feeder n s)

/-- The expiries due: the divider's while the calendar counts (R159), the others while the main supply is present. -/
def dueCommands (s : State) : List Instr :=
  dueIf (calendarCounts s && decide (Config.second ≤ s.csu.divider)) .dividerRollover ++
  (if s.mainPresent then dueTimers s else [])

/-! ### One microsecond -/

/-- An upset on the condition of a stored entry: a second single-bit error makes a double one (R177, R178; log 12). -/
def upsetError (k : UpsetKind) (e : BitError) : BitError :=
  match k, e with
  | .single syndrome, .clean => .single syndrome
  | .single _, .single _ => .double
  | .single _, .double => .double
  | .double, _ => .double

/-- An upset strikes a stored entry; an EMPTY or DAMAGED one has no bits to lose. -/
def strike (u : Upset) (s : State) : State :=
  match bankRead (bankOf (table u.table s) u.bank) u.index with
  | some (.good img e) => storeEntry u.table u.bank u.index (some (.good img (upsetError u.kind e))) s
  | _ => s

/-- One microsecond passes, with the upsets that the free value brings. -/
def tick (s : State) : State := (Config.upsetsAt s.now).foldl (fun s u => strike u s) (elapse 1 s)

end Sys2Proof.Machine
end

