-- ==== Sys2Proof/Machine/Step.lean ====
section
/-! DEFINITION. One step: the command at the front of the queue; with an empty queue the part goes on by itself. -/

namespace Sys2Proof.Machine

/-- With no command waiting: the first event in flight is taken, else the first due timer expires, else one microsecond
passes (log 1). -/
def autonomous (s : State) : Host.Outcome State Fault Refusal :=
  match s.issued with
  | e :: _ => exec e s
  | [] =>
    match dueCommands s with
    | c :: _ => exec c s
    | [] => .next (tick s)

/-- The command at the front of the queue is taken and executed; otherwise the part goes on by itself. -/
def step (s : State) : Host.Outcome State Fault Refusal :=
  match s.pending with
  | c :: rest => exec c { s with pending := rest }
  | [] => autonomous s

/-- A state with the command that a word spells put at the front of its queue; unchanged where it spells none. -/
def State.withFetchWord (s : State) (nbits w : Nat) : State :=
  match Sys2Proof.decodeTableWord nbits w with
  | some c => { s with pending := c :: s.pending }
  | none => s

end Sys2Proof.Machine
end

