-- ==== Sys2Proof/WellFormed.lean ====
section
/-! DEFINITION. The commands whose operands lie within the ranges that the manual gives them, and where each command
comes from. An ill-formed command still runs (log 37). -/

namespace Sys2Proof

/-- A value within bounds. -/
def inRange (lo hi n : Nat) : Bool := decide (lo ≤ n) && decide (n ≤ hi)

/-- A round number (00_scope, Numbering). -/
def roundFits (n : Nat) : Bool := inRange 0 255 n

/-- A round period, in ms (R1). -/
def periodFits (n : Nat) : Bool := n = 5 || n = 8 || n = 10 || n = 16 || n = 20

/-- A priority class (00_scope, Numbering). -/
def classFits (n : Nat) : Bool := inRange 0 7 n

/-- A quantity record: age 0 to 255, hold limit 1 to 32, and age 0 while the value is absent (R21). -/
def recordFits (r : QRecord) : Bool :=
  inRange 0 255 r.age && inRange 1 32 r.hold && (r.value.isSome || r.age == 0)

/-- A sample set (R29). -/
def sampleSetFits (x : SampleSet) : Bool :=
  roundFits x.round && periodFits x.period && x.records.toList.all fun r => recordFits r.record

/-- A round closure (R10). -/
def closureFits (c : Closure) : Bool :=
  match c with
  | .accepted _ _ round period => roundFits round && periodFits period
  | .rejected => true
  | .lost => true

/-- A capture (R31, R32). -/
def captureFits (c : Capture) : Bool :=
  inRange 50 5000000 c.tt && inRange 0 1200000 c.speed && inRange 0 Config.max32 c.fShaft

/-- A ballast update (R37, R38, R46, R47). -/
def updateFits (u : BallastUpdate) : Bool :=
  roundFits u.round && inRange 45000 65000 u.fSet && inRange 0 160000 u.capacity && inRange 0 u.capacity u.demand &&
  inRange 0 8 u.floorHits && inRange 0 8 u.ceilingHits

/-- A second report (R55). -/
def reportFits (r : SecondReport) : Bool := inRange 0 160000 r.capacity && inRange 0 8 r.ceilingHits

/-- A stamp (R159, R161). -/
def stampFits (t : Stamp) : Bool :=
  inRange 2000 2099 t.year && inRange 1 12 t.month && inRange 1 31 t.day && inRange 0 23 t.hour && inRange 0 59 t.minute

/-- The operands of a command lie within the ranges of the manual. -/
def Instr.wellFormed (i : Instr) : Bool :=
  match i with
  | .warmReset => true
  | .powerOnRetentionKept => true
  | .powerOnRetentionLost => true
  | .mainSupplyLoss => true
  | .roundTimerExpiry => true
  | .frameArrival bytes => decide (Config.frameLength ≤ bytes.length)
  | .ringInIdle bytes => decide (bytes ≠ [])
  | .miuRoundClosure c => closureFits c
  | .shaftRisingEdge _ => true
  | .overdueTimerExpiry => true
  | .lossTimerExpiry => true
  | .frgSampleSet set => sampleSetFits set
  | .frgModeNotice old new => decide (old ≠ new)
  | .frgSecondEvent => true
  | .frgMinuteEvent stamp => stampFits stamp
  | .frgClearNotice _ => true
  | .plantStart => true
  | .plantStop => true
  | .plantTrip => true
  | .plantRestart => true
  | .plantEnterCommission => true
  | .plantLeaveCommission => true
  | .tsuSecondEvent => true
  | .startTimerExpiry => true
  | .dwellTimerExpiry => true
  | .tsuSampleSet set => sampleSetFits set
  | .tsuCapture capture => captureFits capture
  | .tsuShaftLossNotice => true
  | .tsuRoundClosure c => closureFits c
  | .tsuBallastUpdate update => updateFits update
  | .tsuSecondReport report => reportFits report
  | .shareBand low high => inRange 0 1000 low && inRange 0 1000 high
  | .sbuBallastUpdate update => updateFits update
  | .sbuSampleSet set => sampleSetFits set
  | .sawClaimRequest amount cls => inRange 0 65535 amount && classFits cls
  | .waitTimerExpiry _ => true
  | .holdTimerExpiry _ => true
  | .sbuClassNotice _ cls => classFits cls
  | .shedPauseTimerExpiry => true
  | .restoreGapTimerExpiry => true
  | .sbuModeNotice old new => decide (old ≠ new)
  | .sduSampleSet set => sampleSetFits set
  | .sawStart => true
  | .sawStop => true
  | .sawClear => true
  | .sawClaimAnswer _ => true
  | .sawGranted => true
  | .starTimerExpiry => true
  | .deltaSettleTimerExpiry => true
  | .confirmTimerExpiry => true
  | .stallTimerExpiry => true
  | .rundownTimerExpiry => true
  | .permissiveChange _ => true
  | .sduRingDown => true
  | .shedOrder => true
  | .noHeadroom => true
  | .sduModeNotice old new => decide (old ≠ new)
  | .sduBallastUpdate update => updateFits update
  | .sawClass cls => classFits cls
  | .sawLockout _ => true
  | .fcuSampleSet set => sampleSetFits set
  | .feederGranted _ => true
  | .breakerWatchTimerExpiry _ => true
  | .settleTimerExpiry _ => true
  | .tripTimerExpiry _ => true
  | .recloseTimerExpiry _ => true
  | .feederWantOn _ number => inRange 1 12 number.toNat
  | .feederWantOff _ number => inRange 1 12 number.toNat
  | .feederClear number => inRange 1 12 number.toNat
  | .tierNotice _ _ => true
  | .fcuRingDown => true
  | .fcuRingUp => true
  | .fcuModeNotice old new => decide (old ≠ new)
  | .eauSampleSet set => sampleSetFits set
  | .eauMeteringReport energy power => inRange 0 3200000 energy && inRange 0 160000 power
  | .eauMinuteEvent stamp => stampFits stamp
  | .dayBoundary => true
  | .accountReset number => inRange 1 14 number.toNat
  | .dividerRollover => true
  | .csuMinuteEvent stamp => stampFits stamp
  | .calendarSet year month day hour minute second =>
    inRange 2000 2099 year.toNat && inRange 1 12 month.toNat && inRange 1 31 day.toNat && inRange 0 23 hour.toNat &&
    inRange 0 59 minute.toNat && inRange 0 59 second.toNat
  | .writeEntry table _ _ _ => inRange 1 11 table.toNat
  | .copyActive table => inRange 1 11 table.toNat
  | .swap table _ => inRange 1 11 table.toNat
  | .readEntry table _ _ => inRange 1 11 table.toNat
  | .readLiveQuantity index _ => inRange 0 64 index.toNat
  | .readLiveRegulator _ => true
  | .readLivePlant _ => true
  | .readLiveClaimListEntry index _ => inRange 0 12 index.toNat
  | .readLiveShedListEntry index _ => inRange 0 11 index.toNat
  | .readLiveSaw _ => true
  | .readLiveFeeder index _ => inRange 1 12 index.toNat
  | .readLiveAccount index _ => inRange 1 14 index.toNat
  | .readLiveCalendar _ => true
  | .readLiveDamagedListEntry index _ => inRange 0 15 index.toNat
  | .readLiveLastCorrection _ => true
  | .summaryRead index _ => inRange 0 59 index.toNat
  | .mmbRequestRegion region => inRange 1 31 region.eligibleFrom
  | .ownerAnswer _ _ => true
  | .mmbRingDown => true
  | .latchNotice _ => true
  | .attentionRead => true
  | .attentionClear causes => decide (causes.toNat < 2 ^ 21)
  | .attentionMask causes => decide (causes.toNat < 2 ^ 21)
  | .backupSupplyLoss => true

/-- Where a command comes from: from outside the part, from the expiry of a timer or of the divider, or from another
block, as an event that it has issued (spec/95; log 1, log 4). -/
inductive Provenance where
  | outside | expiry | event
  deriving DecidableEq, Repr

/-- The provenance of a command. -/
def Instr.provenance (i : Instr) : Provenance :=
  match i with
  | .warmReset => .outside
  | .powerOnRetentionKept => .outside
  | .powerOnRetentionLost => .outside
  | .mainSupplyLoss => .outside
  | .backupSupplyLoss => .outside
  | .frameArrival _ => .outside
  | .ringInIdle _ => .outside
  | .shaftRisingEdge _ => .outside
  | .permissiveChange _ => .outside
  | .roundTimerExpiry => .expiry
  | .overdueTimerExpiry => .expiry
  | .lossTimerExpiry => .expiry
  | .startTimerExpiry => .expiry
  | .dwellTimerExpiry => .expiry
  | .waitTimerExpiry _ => .expiry
  | .holdTimerExpiry _ => .expiry
  | .shedPauseTimerExpiry => .expiry
  | .restoreGapTimerExpiry => .expiry
  | .starTimerExpiry => .expiry
  | .deltaSettleTimerExpiry => .expiry
  | .confirmTimerExpiry => .expiry
  | .stallTimerExpiry => .expiry
  | .rundownTimerExpiry => .expiry
  | .breakerWatchTimerExpiry _ => .expiry
  | .settleTimerExpiry _ => .expiry
  | .tripTimerExpiry _ => .expiry
  | .recloseTimerExpiry _ => .expiry
  | .dividerRollover => .expiry
  | .miuRoundClosure _ => .event
  | .frgSampleSet _ => .event
  | .frgModeNotice _ _ => .event
  | .frgSecondEvent => .event
  | .frgMinuteEvent _ => .event
  | .frgClearNotice _ => .event
  | .plantStart => .event
  | .plantStop => .event
  | .plantTrip => .event
  | .plantRestart => .event
  | .plantEnterCommission => .event
  | .plantLeaveCommission => .event
  | .tsuSecondEvent => .event
  | .tsuSampleSet _ => .event
  | .tsuCapture _ => .event
  | .tsuShaftLossNotice => .event
  | .tsuRoundClosure _ => .event
  | .tsuBallastUpdate _ => .event
  | .tsuSecondReport _ => .event
  | .shareBand _ _ => .event
  | .sbuBallastUpdate _ => .event
  | .sbuSampleSet _ => .event
  | .sawClaimRequest _ _ => .event
  | .sbuClassNotice _ _ => .event
  | .sbuModeNotice _ _ => .event
  | .sduSampleSet _ => .event
  | .sawStart => .event
  | .sawStop => .event
  | .sawClear => .event
  | .sawClaimAnswer _ => .event
  | .sawGranted => .event
  | .sduRingDown => .event
  | .shedOrder => .event
  | .noHeadroom => .event
  | .sduModeNotice _ _ => .event
  | .sduBallastUpdate _ => .event
  | .sawClass _ => .event
  | .sawLockout _ => .event
  | .fcuSampleSet _ => .event
  | .feederGranted _ => .event
  | .feederWantOn _ _ => .event
  | .feederWantOff _ _ => .event
  | .feederClear _ => .event
  | .tierNotice _ _ => .event
  | .fcuRingDown => .event
  | .fcuRingUp => .event
  | .fcuModeNotice _ _ => .event
  | .eauSampleSet _ => .event
  | .eauMeteringReport _ _ => .event
  | .eauMinuteEvent _ => .event
  | .dayBoundary => .event
  | .accountReset _ => .event
  | .csuMinuteEvent _ => .event
  | .calendarSet _ _ _ _ _ _ => .event
  | .writeEntry _ _ _ _ => .event
  | .copyActive _ => .event
  | .swap _ _ => .event
  | .readEntry _ _ _ => .event
  | .readLiveQuantity _ _ => .event
  | .readLiveRegulator _ => .event
  | .readLivePlant _ => .event
  | .readLiveClaimListEntry _ _ => .event
  | .readLiveShedListEntry _ _ => .event
  | .readLiveSaw _ => .event
  | .readLiveFeeder _ _ => .event
  | .readLiveAccount _ _ => .event
  | .readLiveCalendar _ => .event
  | .readLiveDamagedListEntry _ _ => .event
  | .readLiveLastCorrection _ => .event
  | .summaryRead _ _ => .event
  | .mmbRequestRegion _ => .event
  | .ownerAnswer _ _ => .event
  | .mmbRingDown => .event
  | .latchNotice _ => .event
  | .attentionRead => .event
  | .attentionClear _ => .event
  | .attentionMask _ => .event

end Sys2Proof
end

