-- ==== Sys2Proof/Safety.lean ====
section
/-! DEFINITION. What the manual promises of every moment of the machine, as predicates of a state that each step keeps,
and the words in which statements about one command are made. -/

namespace Sys2Proof.Machine

/-! ### Outputs -/

/-- The trip output is asserted: the main supply is present and the trip latch is set (R60). -/
def tripOutput (s : State) : Bool := s.mainPresent && s.tsu.tripLatch

/-! ### Promises of every moment -/

/-- The trip line is asserted exactly when the plant mode is TRIPPED, while the main supply is present (R60). -/
def TripLineFollowsMode (s : State) : Prop :=
  s.mainPresent = true → (s.tsu.tripLatch = true ↔ s.tsu.mode = .tripped)

/-- The modes in which the gate setpoint is 0 (R80). -/
def gateShutMode (m : PlantMode) : Bool :=
  match m with
  | .standby => true
  | .commission => true
  | .tripped => true
  | .starting => false
  | .run => false
  | .stopping => false

/-- The gate setpoint is 0 in STANDBY, COMMISSION and TRIPPED, while the main supply is present (R80). -/
def GateShutOutsideOperation (s : State) : Prop :=
  s.mainPresent = true → gateShutMode s.tsu.mode = true → s.tsu.gate = 0

/-- The saw is idle: STOPPED, RUNDOWN or FAULT. -/
def sawIdle (x : SawState) : Bool :=
  match x with
  | .stopped => true
  | .rundown => true
  | .fault => true
  | .queued => false
  | .star => false
  | .delta => false
  | .run => false

/-- While the permissive is open the contactor is commanded OFF, the feed is 0 and the saw is idle; and a ring check is
pending in RUN alone (R118, R121). -/
def PermissiveHoldsSawOff (s : State) : Prop :=
  (s.sdu.permissive = .opened → s.sdu.contactor = .off ∧ s.sdu.feed = 0 ∧ sawIdle s.sdu.state = true) ∧
  (s.sdu.ringCheck = true → s.sdu.state = .run)

/-- The command holding carries what TSU, SDU, FCU and FRG command (R61, R80, R106, R113, R125, R130, R53). A ballast
entry may be absent: its element is then not commanded. -/
def HoldingCarriesCommands (s : State) : Prop :=
  s.rif.holding.gateSetpoint = some s.tsu.gate ∧
  s.rif.holding.plantStatus = some (modeCode s.tsu.mode) ∧
  s.rif.holding.tripRepeat = some (if s.tsu.mode = .tripped then 1 else 0) ∧
  s.rif.holding.sawContactor = contactorValue s.sdu.contactor ∧
  s.rif.holding.feed = some s.sdu.feed ∧
  (∀ n : Feeder, s.rif.holding.feederBreaker[n] = some (breakerCommand (feeder n s))) ∧
  (∀ n : Element, s.rif.holding.ballastStep[n] = none ∨
    s.rif.holding.ballastStep[n] = some (if s.frg.steps[n] = true then 1 else 0)) ∧
  (s.rif.holding.ballastTrim = none ∨ s.rif.holding.ballastTrim = some s.frg.trimShare)

/-- The claim list holds at most one record per holder, and a feeder's record belongs to the restore in progress
(R87, R101, R103). -/
def OneClaimPerHolder (s : State) : Prop :=
  ((claims s).map (·.holder)).Nodup ∧ ∀ c ∈ claims s, ∀ n, c.holder = .feeder n → s.sbu.restoring = some n

/-- A claim record waits in the queue, with its wait timer. -/
def isQueued (c : Claim) : Bool :=
  match c.state with
  | .queued _ _ => true
  | .granted _ => false

/-- The claim list is in its form: the queue holds QUEUED records and stands by class and then by request order, the
others are GRANTED, and the ranks of the records are distinct and count from 1 (R87). -/
def ClaimListInForm (s : State) : Prop :=
  (∀ c ∈ s.sbu.queue, isQueued c = true) ∧ (∀ c ∈ s.sbu.granted, isQueued c = false) ∧
  s.sbu.queue.Pairwise (fun c d => claimBefore c d = true) ∧ ((claims s).map (·.order)).Nodup ∧
  ∀ c ∈ claims s, 1 ≤ c.order ∧ c.order ≤ (claims s).length

/-- The shed list is in its form: sorted by class and then by joining order, one entry a feeder, the ranks of the entries
distinct and counted from 1, and a feeder is SHED exactly when it has an entry (R94). -/
def ShedListInForm (s : State) : Prop :=
  s.sbu.shedList.Pairwise (fun e d => entryBefore e d = true) ∧ (s.sbu.shedList.map (·.feeder)).Nodup ∧
  (s.sbu.shedList.map (·.order)).Nodup ∧
  (∀ e ∈ s.sbu.shedList, 1 ≤ e.order ∧ e.order ≤ s.sbu.shedList.length) ∧
  ∀ n : Feeder, (feeder n s).state = .shed ↔ ∃ e ∈ s.sbu.shedList, e.feeder = n

/-- The saw's record stands in QUEUED, STAR and DELTA alone, and the feeder of the restore in progress is under restore in
RESTORING, CLOSING or ON (R87, R103). -/
def HoldersStand (s : State) : Prop :=
  (∀ c ∈ claims s, c.holder = .saw → s.sdu.state = .queued ∨ s.sdu.state = .star ∨ s.sdu.state = .delta) ∧
  ∀ n : Feeder, s.sbu.restoring = some n → (feeder n s).underRestore = true ∧
    ((feeder n s).state = .restoring ∨ (feeder n s).state = .closing ∨ (feeder n s).state = .on)

/-- The start opening of a stored TURBINE entry does not exceed its gate maximum (R79). -/
def OpeningFits (b : Bank) (s : State) : Prop :=
  ∀ img e, bankRead (bankOf (table .turbine s) b) 1 = some (.good img e) →
    (turbineEntry img).startOpening ≤ (turbineEntry img).gateMax

/-- The gate setpoint does not exceed the TURBINE gate maximum in force (R80), and the start opening to which STARTING raises
it does not, in the values in force and in every entry that can come into force (R79). -/
def GateWithinMaximum (s : State) : Prop :=
  s.tsu.gate ≤ s.tsu.turbine.gateMax ∧ s.tsu.turbine.startOpening ≤ s.tsu.turbine.gateMax ∧
  OpeningFits (table .turbine s).active s ∧
  ((table .turbine s).pending = true → OpeningFits (otherBank (table .turbine s).active) s)

/-- A mode notice out of RUN, into STOPPING or TRIPPED, is in flight. -/
def LeavingNoticed (notice : PlantMode → PlantMode → Instr) (s : State) : Prop :=
  notice .run .stopping ∈ s.issued ∨ notice .run .tripped ∈ s.issued

/-- Whenever the plant mode is not RUN, every feeder is OFF or LOCKED with its breaker command OPEN, the saw is idle with its
contactor command OFF, and the claim list and the shed list are empty, once the block concerned has taken the notice of the
change out of RUN (R61, R104, R122, R130, R144). -/
def QuietOutsideRun (s : State) : Prop :=
  s.mainPresent = true → s.tsu.mode ≠ .run →
    (LeavingNoticed .fcuModeNotice s ∨ ∀ n : Feeder,
      ((feeder n s).state = .off ∨ (feeder n s).state = .locked) ∧ s.rif.holding.feederBreaker[n] = some 0) ∧
    (LeavingNoticed .sduModeNotice s ∨
      sawIdle s.sdu.state = true ∧ s.sdu.contactor = .off ∧ s.rif.holding.sawContactor = some 0) ∧
    (LeavingNoticed .sbuModeNotice s ∨ s.sbu.granted = [] ∧ s.sbu.queue = [] ∧ s.sbu.shedList = [])

/-- The eligible-from position is a ring position 1 to 31 (R183). -/
def EligibleFromIsPosition (s : State) : Prop := 1 ≤ s.mmb.eligibleFrom ∧ s.mmb.eligibleFrom ≤ 31

/-- The run counts and the round number hold eight bits (R11, R2). -/
def RingCountsFit (s : State) : Prop := s.rif.goodRun ≤ 255 ∧ s.rif.badRun ≤ 255 ∧ s.rif.lastRound ≤ 255

/-- The ballast demand lies between 0 and the capacity (R37). -/
def DemandWithinCapacity (s : State) : Prop := s.frg.demand ≤ s.frg.capacity

/-- The banks of the table store are in their canonical form, and the damaged-entry list holds up to 16 records, no two
of them the same, each of an entry that is marked DAMAGED (R179). -/
def TablesCanonical (s : State) : Prop :=
  tbsWf s.tbs = true ∧ s.tbs.damagedList.Nodup ∧ s.tbs.damagedList.length ≤ 16 ∧
  ∀ d ∈ s.tbs.damagedList, bankRead (bankOf (table d.table s) d.bank) d.index = some .damaged

/-! ### Statements about one command -/

/-- A command runs to a next state with a property. -/
def RunsTo (c : Instr) (s : State) (P : State → Prop) : Prop := ∃ t, exec c s = .next t ∧ P t

/-- The events in flight after a command: the command's own event is taken, and new ones follow (log 4). -/
def flightAfter (c : Instr) (s : State) (new : List Instr) : List Instr := s.issued.erase c ++ new

/-- A latch notice. -/
def isLatchNotice (e : Instr) : Bool :=
  match e with
  | .latchNotice _ => true
  | _ => false

/-- Between two states the events issued are some latch notices and then the given events. -/
def IssuesOn (before after new : List Instr) : Prop :=
  ∃ notices : List Instr, (∀ e ∈ notices, isLatchNotice e = true) ∧ after = before ++ (notices ++ new)

/-- A command that takes its own event issues some latch notices and then the given events. -/
def Issues (c : Instr) (s t : State) (new : List Instr) : Prop := IssuesOn (s.issued.erase c) t.issued new

/-- The answer of an owner with no data words. -/
def plainAnswer (status : Status) : Instr := .ownerAnswer status (wordsOf [])

/-- A state in which a request has been answered and nothing else has changed. -/
def answeredOnly (c : Instr) (status : Status) (s : State) : State :=
  { s with issued := flightAfter c s [plainAnswer status] }

/-- The bank entry that a table request or a reader names, as it stands. -/
def entryAt (t : TableId) (b : Bank) (i : Nat) (s : State) : Option Stored := bankRead (bankOf (table t s) b) i

/-- Every entry of the table store but one stands as before. -/
def OthersStand (t : TableId) (b : Bank) (i : Nat) (s s' : State) : Prop :=
  ∀ u c j, ¬(u = t ∧ c = b ∧ j = i) → entryAt u c j s' = entryAt u c j s

/-- Every entry of the table store stands as before. -/
def EntriesStand (s s' : State) : Prop := ∀ u c j, entryAt u c j s' = entryAt u c j s

/-- A stored entry after an upset of its bits: a single-bit error in a clean entry, and otherwise a double one; an EMPTY or
DAMAGED entry has no bits to lose (R177, R178; log 12). -/
def struckBy (k : UpsetKind) (e : Option Stored) : Option Stored :=
  match e, k with
  | some (.good img .clean), .single syndrome => some (.good img (.single syndrome))
  | some (.good img _), _ => some (.good img .double)
  | e, _ => e

/-- An entry after the upsets of a list, of which those that name it strike it. -/
def struck (t : TableId) (b : Bank) (i : Nat) (upsets : List Upset) (e : Option Stored) : Option Stored :=
  upsets.foldl (fun e u => if u.table = t ∧ u.bank = b ∧ u.index = i then struckBy u.kind e else e) e

/-- What a read returns of an entry as it stands: a single-bit error is corrected and a double one is not (R177, R178). -/
def resultOf (e : Option Stored) : ReadResult :=
  match e with
  | none => .empty
  | some .damaged => .damaged
  | some (.good img .clean) => .good img
  | some (.good img (.single _)) => .good img
  | some (.good _ .double) => .damaged

/-- What an owner's read of an entry returns, once it has taken the table's swap if one is pending (R176). -/
def ownerReads (t : TableId) (i : Nat) (s : State) : ReadResult :=
  let x := table t s
  resultOf (entryAt t (if x.pending then otherBank x.active else x.active) i s)

/-- What a read of an entry of the active bank returns. -/
def activeReads (t : TableId) (i : Nat) (s : State) : ReadResult := resultOf (entryAt t (table t s).active i s)

/-- A band total of an account. -/
def bandTotal (band : TariffBand) (a : Account) : Nat :=
  match band with
  | .low => a.low
  | .standard => a.standard
  | .peak => a.peak

/-- Every entry of the table store reads as before. -/
def EntriesReadAlike (s s' : State) : Prop :=
  ∀ u b j, resultOf (entryAt u b j s') = resultOf (entryAt u b j s)

/-- The latch notice that a read of an entry brings, from the entry as it stands (R177, R178). -/
def readNotices (e : Option Stored) : List Instr :=
  match e with
  | some (.good _ (.single _)) => [.latchNotice .memoryCorrected]
  | some (.good _ .double) => [.latchNotice .tableDamaged]
  | _ => []

/-- A table with its marks as they stood: only the content of its banks may have changed. -/
def MarksStand (x : TableId) (s t : State) : Prop :=
  table x t = { table x s with bankA := (table x t).bankA, bankB := (table x t).bankB }

/-- The role of a bank of a table (R170). -/
def roleIn (x : TableId) (b : Bank) (s : State) : Role := if b = (table x s).active then .active else .standby

/-- The table store after a read of one entry. A single-bit error is written back corrected, and the last-correction record
and its count follow (R177); a double error marks the entry DAMAGED and lists it, or sets the overflow flag of a full list
(R178, R179); any other read changes nothing. -/
def ReadChecks (x : TableId) (b : Bank) (i : Nat) (s t : State) : Prop :=
  OthersStand x b i s t ∧ (∀ y, MarksStand y s t) ∧
  (∀ img syndrome, entryAt x b i s = some (.good img (.single syndrome)) →
    entryAt x b i t = some (.good img .clean) ∧
    t.tbs = { s.tbs with
      tables := t.tbs.tables
      lastCorrection := some { table := x, bank := b, role := roleIn x b s, index := i, syndrome := syndrome }
      corrections := min (s.tbs.corrections + 1) 65535 }) ∧
  (∀ img, entryAt x b i s = some (.good img .double) →
    entryAt x b i t = some .damaged ∧
    (s.tbs.damagedList.length < 16 →
      t.tbs = { s.tbs with tables := t.tbs.tables, damagedList := s.tbs.damagedList ++ [⟨x, b, i⟩] }) ∧
    (16 ≤ s.tbs.damagedList.length → t.tbs = { s.tbs with tables := t.tbs.tables, overflow := true })) ∧
  (readNotices (entryAt x b i s) = [] → t.tbs = s.tbs)

/-- What the reads of several entries of a bank find, each read once, in rising index: single-bit errors are written back
corrected, the last of them stands in the last-correction record, and the count has grown by their number (R177); double
errors are marked DAMAGED, and listed unless the list has overflowed (R178, R179). -/
def SweepChecks (x : TableId) (b : Bank) (is : List Nat) (s t : State) : Prop :=
  let single := fun i => ∃ img syndrome, entryAt x b i s = some (.good img (.single syndrome))
  ((∀ i ∈ is, ¬single i) →
    t.tbs.lastCorrection = s.tbs.lastCorrection ∧ t.tbs.corrections = s.tbs.corrections) ∧
  (∀ i ∈ is, ∀ img syndrome, entryAt x b i s = some (.good img (.single syndrome)) →
    entryAt x b i t = some (.good img .clean) ∧ .latchNotice .memoryCorrected ∈ t.issued ∧
    ((∀ j ∈ is, i < j → ¬single j) → t.tbs.lastCorrection =
      some { table := x, bank := b, role := roleIn x b s, index := i, syndrome := syndrome })) ∧
  (∀ found : List Nat, found.Nodup → (∀ i, i ∈ found ↔ i ∈ is ∧ single i) → found ≠ [] →
    t.tbs.corrections = min (s.tbs.corrections + found.length) 65535) ∧
  ∀ i ∈ is, ∀ img, entryAt x b i s = some (.good img .double) →
    entryAt x b i t = some .damaged ∧ .latchNotice .tableDamaged ∈ t.issued ∧
    (⟨x, b, i⟩ ∈ t.tbs.damagedList ∨ t.tbs.overflow = true)

/-! ### What a command of one block leaves alone -/

/-- Only TSU's record, its three command holding entries, the events and the store's own records have changed. -/
def TsuAlone (s t : State) : Prop :=
  t = { s with
    tsu := t.tsu, tbs := t.tbs, issued := t.issued
    rif := { s.rif with
      holding := { s.rif.holding with
        gateSetpoint := t.rif.holding.gateSetpoint, tripRepeat := t.rif.holding.tripRepeat
        plantStatus := t.rif.holding.plantStatus } } } ∧
  (TablesCanonical s → EntriesReadAlike s t)

/-- Only SBU's record, the feeders' records and breaker commands, the events and the store's own records have changed. -/
def SbuAlone (s t : State) : Prop :=
  t = { s with
    sbu := t.sbu, fcu := { s.fcu with feeders := t.fcu.feeders }, tbs := t.tbs, issued := t.issued
    rif := { s.rif with holding := { s.rif.holding with feederBreaker := t.rif.holding.feederBreaker } } } ∧
  (TablesCanonical s → EntriesReadAlike s t)

/-- Only SDU's record, the claim list, the saw's two command holding entries, the events and the store's own records have
changed. -/
def SduAlone (s t : State) : Prop :=
  t = { s with
    sdu := t.sdu, sbu := { s.sbu with granted := t.sbu.granted, queue := t.sbu.queue }, tbs := t.tbs, issued := t.issued
    rif := { s.rif with
      holding := { s.rif.holding with
        sawContactor := t.rif.holding.sawContactor, feed := t.rif.holding.feed } } } ∧
  (TablesCanonical s → EntriesReadAlike s t)

/-- Only the feeders' records and breaker commands, SBU's lists and restore, the events and the store's own records have
changed. -/
def FcuAlone (s t : State) : Prop :=
  t = { s with
    fcu := t.fcu, tbs := t.tbs, issued := t.issued
    sbu := { s.sbu with
      granted := t.sbu.granted, queue := t.sbu.queue, shedList := t.sbu.shedList, restoring := t.sbu.restoring
      restoreGap := t.sbu.restoreGap }
    rif := { s.rif with holding := { s.rif.holding with feederBreaker := t.rif.holding.feederBreaker } } } ∧
  (TablesCanonical s → EntriesReadAlike s t)

/-- Only RIF's record, but not the command holding, the quantity records, the pending response, the events and the
store's own records have changed. -/
def RoundAlone (s t : State) : Prop :=
  t = { s with
    rif := { t.rif with holding := s.rif.holding }, miu := { s.miu with records := t.miu.records }
    mmb := { s.mmb with response := t.mmb.response }, tbs := t.tbs, issued := t.issued } ∧
  (TablesCanonical s → EntriesReadAlike s t)

/-- Only MIU's record, the events and the store's own records have changed. -/
def MiuAlone (s t : State) : Prop :=
  t = { s with miu := t.miu, tbs := t.tbs, issued := t.issued } ∧ (TablesCanonical s → EntriesReadAlike s t)

/-- Only FRG's record, the ballast commands, the events and the store's own records have changed. -/
def FrgAlone (s t : State) : Prop :=
  t = { s with
    frg := t.frg, tbs := t.tbs, issued := t.issued
    rif := { s.rif with
      holding := { s.rif.holding with
        ballastStep := t.rif.holding.ballastStep, ballastTrim := t.rif.holding.ballastTrim } } } ∧
  (TablesCanonical s → EntriesReadAlike s t)

/-! ### The ballast -/

/-- The PI law's sum moves demand and remainder exactly, in 1/256 W, or clamps at 0 or at the capacity with the sticky
flag of the side and REG-SATURATED (R43, R44). -/
def LawMoves (acc : Int) (s t : State) : Prop :=
  let total : Int := 256 * (s.frg.demand : Int) + acc
  (0 ≤ total → total < 256 * ((t.frg.capacity : Int) + 1) →
    256 * (t.frg.demand : Int) + t.frg.remainder = total ∧ t.frg.remainder < 256 ∧
    t.frg.floorSticky = s.frg.floorSticky ∧ t.frg.ceilingSticky = s.frg.ceilingSticky) ∧
  (total < 0 →
    t.frg.demand = 0 ∧ t.frg.remainder = 0 ∧ t.frg.floorSticky = true ∧
    t.frg.ceilingSticky = s.frg.ceilingSticky ∧ .latchNotice .regSaturated ∈ t.issued) ∧
  (256 * ((t.frg.capacity : Int) + 1) ≤ total →
    t.frg.demand = t.frg.capacity ∧ t.frg.remainder = 0 ∧ t.frg.ceilingSticky = true ∧
    t.frg.floorSticky = s.frg.floorSticky ∧ .latchNotice .regSaturated ∈ t.issued)

/-- A demand brought within the capacity, silently (R45). -/
def DemandHeld (s t : State) : Prop :=
  t.frg.demand = min s.frg.demand t.frg.capacity ∧
  t.frg.remainder = if t.frg.capacity < s.frg.demand then 0 else s.frg.remainder

/-- The entry that a composition has of an element: its BALLAST entry where it is GOOD with present yes (R48, R49). -/
def elementOf (n : Element) (s : State) : Option BallastEntry := fittedEntry (ownerReads .ballast (n.val + 1) s)

/-- A composition between two states, with the elements whose status reports a fault: capacity and trim rating from the
sound elements, the step set held or rebuilt in element order, the trim's share of the residual, full ballast in
FORCED-FULL, and the holding entries (R49 to R53). -/
def Composed (faulty : Element → Bool) (s t : State) : Prop :=
  let rating := fun (trim : Bool) (n : Element) =>
    match elementOf n s with
    | some e => if e.trim = trim ∧ faulty n = false then e.rating else 0
    | none => 0
  let sum := fun f : Element → Nat => ((List.finRange 8).map f).sum
  let soundStep : Element → Prop := fun n => ∃ e, elementOf n s = some e ∧ e.trim = false ∧ faulty n = false
  let soundTrim : Prop := ∃ n e, elementOf n s = some e ∧ e.trim = true ∧ faulty n = false
  let keptSum := sum fun n => if s.frg.steps[n] = true then rating false n else 0
  let held : Prop := keptSum ≤ t.frg.demand ∧ t.frg.demand ≤ keptSum + t.frg.trimRating ∧
    (∀ n : Element, s.frg.steps[n] = true → soundStep n) ∧ (table .ballast s).pending = false
  let d := t.frg.demand - t.frg.stepSum
  t.frg.capacity = sum (fun n => rating false n + rating true n) ∧ t.frg.trimRating = sum (rating true) ∧
  t.frg.stepSum = sum (fun n => if t.frg.steps[n] = true then rating false n else 0) ∧
  (t.frg.state = .forcedFull →
    (∀ n : Element, t.frg.steps[n] = true ↔ soundStep n) ∧ (soundTrim → t.frg.trimShare = 255) ∧
    (¬soundTrim → t.frg.trimShare = 0) ∧ t.frg.shortfallSticky = s.frg.shortfallSticky) ∧
  (t.frg.state ≠ .forcedFull →
    (held → t.frg.steps = s.frg.steps) ∧
    (¬held → ∀ n : Element, t.frg.steps[n] = true ↔ soundStep n ∧
      sum (fun m => if m < n ∧ t.frg.steps[m] = true then rating false m else 0) + rating false n ≤ t.frg.demand) ∧
    (¬soundTrim → t.frg.trimShare = 0 ∧ t.frg.shortfallSticky = s.frg.shortfallSticky) ∧
    (soundTrim → d ≤ t.frg.trimRating →
      t.frg.trimShare = (2 * (255 * d) + t.frg.trimRating) / (2 * t.frg.trimRating) ∧
      t.frg.shortfallSticky = s.frg.shortfallSticky) ∧
    (soundTrim → t.frg.trimRating < d →
      t.frg.trimShare = 255 ∧ t.frg.shortfallSticky = true ∧ .latchNotice .compositionShortfall ∈ t.issued)) ∧
  (∀ n : Element, t.rif.holding.ballastStep[n] =
    match elementOf n s with
    | some e => if e.trim = true then none else some (if t.frg.steps[n] = true then 1 else 0)
    | none => none) ∧
  ((∃ n e, elementOf n s = some e ∧ e.trim = true) → t.rif.holding.ballastTrim = some t.frg.trimShare) ∧
  ((∀ n e, elementOf n s = some e → e.trim = false) → t.rif.holding.ballastTrim = none)

/-- A stamp's date stands in a GOOD HOLIDAYS entry of the reads given (R152, R166). -/
def HolidayIn (reads : Nat → ReadResult) (t : Stamp) : Prop :=
  ∃ i img, 1 ≤ i ∧ i ≤ 16 ∧ reads i = .good img ∧ holidayEntry img = (t.month, t.day)

/-! ### Starts -/

/-- The tables whose owners take a pending swap at the end of a reset: BALLAST, FEEDERS and SAW (R37, R106, R127). -/
def swappedAtStart (x : TableId) : Bool := x = .ballast || x = .feeders || x = .saw

/-- The table store after a start: the entries stay in their banks, a swap pending on BALLAST, FEEDERS or SAW has been
taken and any other still waits, and the damaged-entry list has at most grown (R176, R178, R179, R182). -/
def KeepsTables (s t : State) : Prop :=
  (∀ x : TableId,
    let taken := (table x s).pending && swappedAtStart x
    (table x t).generation = (table x s).generation ∧
    (table x t).active = (if taken = true then otherBank (table x s).active else (table x s).active) ∧
    (table x t).pending = ((table x s).pending && !taken) ∧ (table x t).history = ((table x s).history || taken)) ∧
  s.tbs.damagedList <+: t.tbs.damagedList ∧ (s.tbs.overflow = true → t.tbs.overflow = true) ∧
  (t.tbs.damagedList.length < 16 → t.tbs.overflow = s.tbs.overflow) ∧ (TablesCanonical s → EntriesReadAlike s t)

/-- The values of the retained domain are those of another state (00_scope, Resets). -/
def KeepsRetained (s t : State) : Prop :=
  t.tsu.tripLatch = s.tsu.tripLatch ∧ t.tsu.tripCause = s.tsu.tripCause ∧ t.tsu.tripStamp = s.tsu.tripStamp ∧
  t.eau.accounts = s.eau.accounts ∧ t.eau.tiers = s.eau.tiers ∧
  t.csu = { s.csu with lastEvaluation := none } ∧
  (∀ n : Feeder, (feeder n t).desired = (feeder n s).desired) ∧ KeepsTables s t

/-- The supervisor after a start, but for what it reads from the tables (R60). -/
def TsuStarted (s t : State) : Prop :=
  t.tsu =
    { mode := if s.tsu.tripLatch = true then .tripped else .standby
      tripLatch := s.tsu.tripLatch, tripCause := s.tsu.tripCause, tripStamp := s.tsu.tripStamp
      gate := 0, startTimer := .stopped, inBand := 0, dwell := .stopped, share := t.tsu.share, pond := false
      fSetView := 50000, alarmArmed := true, overspeed := 0, overfrequency := 0, watch := none
      protectionDamage := false, turbine := t.tsu.turbine, turbineState := t.tsu.turbineState
      protection := t.tsu.protection }

/-- The regulator after a start, but for the composition (R37). -/
def FrgStarted (s t : State) : Prop :=
  t.frg =
    { state := if s.tsu.tripLatch = true then .forcedFull else .hold
      mode := if s.tsu.tripLatch = true then .tripped else .standby
      source := .none, freq := none, demand := if s.tsu.tripLatch = true then t.frg.capacity else 0
      remainder := 0, lastError := none, fSet := 50000, kp := 0, ki := 0
      floorHistory := Vector.replicate 8 false, ceilingHistory := Vector.replicate 8 false
      floorSticky := false, ceilingSticky := false, shortfallSticky := false
      capacity := t.frg.capacity, trimRating := t.frg.trimRating, steps := t.frg.steps, stepSum := t.frg.stepSum
      trimShare := t.frg.trimShare, faults := Vector.replicate 8 false, carry := 0, secondSum := 0, secondCount := 0
      minute := { fMin := none, fMax := none, sum := 0, count := 0, floorHits := 0, ceilingHits := 0 }, summary := [] }

/-- The balance after a start, but for the BALANCE read (R82). -/
def SbuStarted (t : State) : Prop :=
  t.sbu =
    { view := { demand := 0, capacity := 0, state := .hold, freq := none, fSet := 50000, floorHits := 0 }
      voltage := none, voltageSt := .never, balance := t.sbu.balance, degraded := t.sbu.degraded, granted := []
      queue := [], shedList := [], restoring := none, shedPause := .stopped, restoreGap := .stopped
      unresolved := false }

/-- The saw after a start, but for the SAW read (R106). -/
def SduStarted (s t : State) : Prop :=
  t.sdu =
    { state := .stopped, reason := .none, cls := t.sdu.cls, lockout := false, contactor := .off, confirm := .pending
      confirmTimer := .suspended 1000000 false, starTimer := .stopped, deltaTimer := .stopped
      rundownTimer := .stopped, stallTimer := .stopped, ringCheck := false, button := .unknown
      permissive := s.permissivePin, fSetView := 50000, feed := 0, factorF := none, factorI := none
      values := t.sdu.values, entryState := t.sdu.entryState }

/-- A feeder after a start, but for its FEEDERS read (R127). -/
def FeederStarted (n : Feeder) (s t : State) : Prop :=
  feeder n t =
    { desired := (feeder n s).desired, state := .off, reason := .none, values := (feeder n t).values
      entryState := (feeder n t).entryState, cls := (feeder n t).cls, tier := s.eau.tiers[n], underRestore := false
      preShed := 0, watch := .stopped, settle := .stopped, trip := .stopped, reclose := .stopped, lastTrip := none }

/-- The command holding after a start, but for the ballast (R4). -/
def HoldingStarted (s t : State) : Prop :=
  t.rif.holding.gateSetpoint = some 0 ∧ t.rif.holding.sawContactor = some 0 ∧ t.rif.holding.feed = some 0 ∧
  t.rif.holding.tripRepeat = some (if s.tsu.tripLatch = true then 1 else 0) ∧
  t.rif.holding.plantStatus = some (if s.tsu.tripLatch = true then 5 else 1) ∧
  ∀ n : Feeder, t.rif.holding.feederBreaker[n] = some 0

/-- The mailbox after a start: RESTARTED is latched, with what the end-of-reset reads have found, and nothing else is
(R183). -/
def MmbStarted (t : State) : Prop :=
  t.mmb =
    { eligibleFrom := 1, response := none, outstanding := none, reading := none, latch := t.mmb.latch
      mask := BitVec.allOnes 21, authInUse := .none, lastGoodAuth := none } ∧
  t.mmb.latch &&& causeSet .restarted = causeSet .restarted ∧
  t.mmb.latch &&& ~~~(causeSet .restarted ||| causeSet .tableDamaged ||| causeSet .memoryCorrected) = 0 ∧
  attentionMarker t.mmb = true

/-- The volatile values after a start, but for what the owners read from the tables (R1, R14, R21, R31, R37, R60, R82, R106,
R127, R169, R177, R183). -/
def FreshlyStarted (s t : State) : Prop :=
  t.mainPresent = true ∧ t.retentionHeld = true ∧ t.permissivePin = s.permissivePin ∧ t.issued = [] ∧
  t.pending = s.pending ∧ t.now = s.now ∧
  t.rif =
    { roundTimer := .running (s.now + t.rif.period * 1000), period := t.rif.period, ring := .down, goodRun := 0
      badRun := 0, lastRound := 255, outstanding := none, late := none, emitted := none, holding := t.rif.holding } ∧
  HoldingStarted s t ∧ t.miu = Miu.reset ∧ TsuStarted s t ∧ FrgStarted s t ∧ SbuStarted t ∧ SduStarted s t ∧
  (∀ n : Feeder, FeederStarted n s t) ∧ t.fcu.overVoltage = 0 ∧
  t.eau = { s.eau with band := t.eau.band, dayType := t.eau.dayType, slot := t.eau.slot, basis := t.eau.basis } ∧
  (t.tbs.lastCorrection = none ↔ t.tbs.corrections = 0) ∧ MmbStarted t

/-- The band record from a stamp and the reads of the TARIFF and HOLIDAYS entries (R152, R153). -/
def BandFollows (stamp : Stamp) (tariff holidays : Nat → ReadResult) (e : Eau) : Prop :=
  (stamp.valid = false →
    e.band = .standard ∧ e.dayType = none ∧ e.slot = none ∧ e.basis = .calendarInvalid) ∧
  (stamp.valid = true →
    let rest : Prop := stamp.weekday = .sunday ∨ HolidayIn holidays stamp
    let slot := stamp.hour * 2 + (if 30 ≤ stamp.minute then 1 else 0)
    e.slot = some slot ∧ (rest → e.dayType = some .rest) ∧ (¬rest → e.dayType = some .workday) ∧
    ∀ i, (rest → i = slot + 49) → (¬rest → i = slot + 1) →
      (∀ img, tariff i = .good img → e.band = tariffEntry img ∧ e.basis = .table) ∧
      (readStatus (tariff i) ≠ .good → e.band = .standard ∧ e.basis = .entryNotGood))

/-- What the owners have read from the tables at a start: the header's period, the TURBINE, PROTECTION and BALANCE values,
the ballast composed, the saw's and the feeders' values and classes, and the band (R1, R37, R60, R83, R106, R127, R152). -/
def StartsFromTables (s t : State) : Prop :=
  (∀ img, activeReads .slotMap 0 s = .good img → t.rif.period = headerPeriod img) ∧
  (readStatus (activeReads .slotMap 0 s) ≠ .good → t.rif.period = 10) ∧
  t.tsu.turbineState = readStatus (activeReads .turbine 1 s) ∧
  (∀ img, activeReads .turbine 1 s = .good img →
    let v := turbineEntry img
    t.tsu.turbine = v ∧ t.tsu.share = { low := v.shareLow, high := v.shareHigh, source := .table }) ∧
  (readStatus (activeReads .turbine 1 s) ≠ .good →
    t.tsu.turbine = TurbineValues.zero ∧ t.tsu.share = { low := 0, high := 0, source := .table }) ∧
  t.tsu.protection =
    (match activeReads .protection 1 s with | .good img => some (protectionEntry img) | _ => none) ∧
  Composed (fun _ => false)
    { s with frg := { s.frg with steps := Vector.replicate 8 false, shortfallSticky := false } } t ∧
  (∀ img, activeReads .balance 1 s = .good img → t.sbu.balance = balanceEntry img ∧ t.sbu.degraded = false) ∧
  (readStatus (activeReads .balance 1 s) ≠ .good →
    t.sbu.balance = BalanceValues.defaults ∧ t.sbu.degraded = true) ∧
  t.sdu.entryState = readStatus (ownerReads .saw 1 s) ∧
  (∀ img, ownerReads .saw 1 s = .good img →
    t.sdu.values = some (sawEntry img) ∧ t.sdu.cls = (sawEntry img).defaultClass) ∧
  (readStatus (ownerReads .saw 1 s) ≠ .good → t.sdu.values = none ∧ t.sdu.cls = 7) ∧
  (∀ n : Feeder,
    let read := ownerReads .feeders (n.val + 1) s
    (feeder n t).entryState = readStatus read ∧
    (∀ img, read = .good img →
      let v := feederEntry img
      (feeder n t).values = some v ∧ (feeder n t).cls = if v.present = true then v.cls else 7) ∧
    (readStatus read ≠ .good → (feeder n t).values = none ∧ (feeder n t).cls = 7)) ∧
  BandFollows (stampOf s.csu) (fun i => activeReads .tariff i s) (fun i => activeReads .holidays i s) t.eau

/-! ### The plant -/

/-- The command holding in a plant mode (R80). -/
def holdingIn (m : PlantMode) (h : Holding) : Holding :=
  { h with plantStatus := some (modeCode m), tripRepeat := some (if m = .tripped then 1 else 0) }

/-- TSU's record with a GOOD TURBINE read taken in (R72, R79). -/
def withTurbine (v : TurbineValues) (u : Tsu) : Tsu :=
  { u with
    turbine := v, turbineState := .good, gate := min u.gate v.gateMax
    share := if u.share.source = .table then { low := v.shareLow, high := v.shareHigh, source := .table } else u.share }

/-- TSU's record after a trip, with the stamp of a state (R77). -/
def trippedFrom (cause : TripCause) (s : State) (u : Tsu) : Tsu :=
  { u with
    mode := .tripped, tripLatch := true, tripCause := some cause
    tripStamp :=
      if s.csu.valid = true then some ⟨s.csu.year, s.csu.month, s.csu.day, s.csu.hour, s.csu.minute, s.csu.second⟩
      else none
    gate := 0, startTimer := .stopped, dwell := .stopped, inBand := 0, overfrequency := 0, overspeed := 0
    watch := none }

/-- A trip was taken between two states (R77); the counts that a later check of the same event moves stand apart. -/
def TripTaken (cause : TripCause) (s t : State) : Prop :=
  t.tsu.mode = .tripped ∧ t.tsu.tripLatch = true ∧ t.tsu.tripCause = some cause ∧
  t.tsu.tripStamp = (trippedFrom cause s s.tsu).tripStamp ∧ t.tsu.gate = 0 ∧ t.tsu.startTimer = .stopped ∧
  t.tsu.dwell = .stopped ∧ t.tsu.inBand = 0 ∧ t.tsu.overfrequency = 0 ∧ t.tsu.watch = none ∧
  t.rif.holding.gateSetpoint = some 0 ∧ t.rif.holding.tripRepeat = some 1 ∧ t.rif.holding.plantStatus = some 5 ∧
  .latchNotice .trip ∈ t.issued ∧ ∀ e ∈ modeNotices s.tsu.mode .tripped, e ∈ t.issued

/-! ### Claims and feeders -/

/-- No claim record of a holder. -/
def NoClaim (h : Holder) (t : State) : Prop := ∀ c ∈ claims t, c.holder ≠ h

/-- A holder's record has left the list; the other records stand in their places with all they hold, but for their ranks,
which close up in the order they had (R87). -/
def ClaimLeaves (h : Holder) (s t : State) : Prop :=
  let unranked := fun l : List Claim => l.map fun c => { c with order := 0 }
  NoClaim h t ∧ unranked t.sbu.granted = unranked (s.sbu.granted.filter fun c => c.holder ≠ h) ∧
  unranked t.sbu.queue = unranked (s.sbu.queue.filter fun c => c.holder ≠ h)

/-- A feeder's entry has left the shed list; the other entries stand in their places with all they hold, but for their
ranks, which close up in the order they had (R94). -/
def EntryLeaves (n : Feeder) (s t : State) : Prop :=
  let unranked := fun l : List ShedEntry => l.map fun e => { e with order := 0 }
  unranked t.sbu.shedList = unranked (s.sbu.shedList.filter fun e => e.feeder ≠ n)

/-- A feeder's record with its breaker watch, settle, trip and reclose timers stopped, under restore no, a state and a
reason. -/
def parked (state : FeederState) (reason : FeederReason) (r : FeederRecord) : FeederRecord :=
  { r with
    state := state, reason := reason, watch := .stopped, settle := .stopped, trip := .stopped, reclose := .stopped
    underRestore := false }

/-- One feeder has a record and a breaker command, and the others stand as before. -/
def FeederBecomes (n : Feeder) (r : FeederRecord) (s t : State) : Prop :=
  feeder n t = r ∧ (∀ m, m ≠ n → feeder m t = feeder m s) ∧ t.fcu.overVoltage = s.fcu.overVoltage ∧
  t.rif.holding.feederBreaker[n] = some (breakerCommand r) ∧
  ∀ m : Feeder, m ≠ n → t.rif.holding.feederBreaker[m] = s.rif.holding.feederBreaker[m]

/-- A feeder's entry has joined the shed list, the others standing in their order (R94). -/
def JoinsShed (n : Feeder) (cls : Nat) (reason : ShedReason) (s t : State) : Prop :=
  ∃ front back e, s.sbu.shedList = front ++ back ∧ t.sbu.shedList = front ++ e :: back ∧ e.feeder = n ∧ e.cls = cls ∧
    e.reason = reason

/-- A feeder has become SHED, with its pre-shed load, and its entry has joined (R94, R136). -/
def BecomesShed (n : Feeder) (reason : ShedReason) (r : FeederRecord) (s t : State) : Prop :=
  FeederBecomes n (parked .shed (feederReasonOf reason) r) s t ∧ JoinsShed n r.cls reason s t

/-- The restore of a feeder, if it was the one in progress, has ended at a time, and the gap runs (R103). -/
def RestoreEnds (n : Feeder) (time : Nat) (s t : State) : Prop :=
  (s.sbu.restoring = some n →
    t.sbu.restoring = none ∧ t.sbu.restoreGap = .running (time + s.sbu.balance.restoreGap * 1000 * 1000)) ∧
  (s.sbu.restoring ≠ some n → t.sbu.restoring = s.sbu.restoring ∧ t.sbu.restoreGap = s.sbu.restoreGap)

/-- A trip of an ON feeder at a time (R139). -/
def FeederTrips (n : Feeder) (reason : FeederReason) (u t : State) : Prop :=
  let r := feeder n u
  let locked : Prop := ∃ last v, r.lastTrip = some last ∧ r.values = some v ∧ u.now - last < v.lockoutWindow * 60000000
  (locked → (feeder n t).state = .locked ∧ .latchNotice .feederLocked ∈ t.issued) ∧
  (¬locked → (feeder n t).state = .tripped ∧
    ∀ v, r.values = some v → (feeder n t).reclose = .running (u.now + v.recloseDelay * 1000 * 1000)) ∧
  FeederBecomes n
    { r with
      state := (feeder n t).state, reason := reason, preShed := lastPower n u, lastTrip := some u.now, watch := .stopped
      settle := .stopped, trip := .stopped, underRestore := false, reclose := (feeder n t).reclose } u t ∧
  .latchNotice .feederTripped ∈ t.issued ∧
  (r.underRestore = true → ClaimLeaves (.feeder n) u t ∧ RestoreEnds n u.now u t) ∧
  (r.underRestore = false → t.sbu = u.sbu)

/-! ### The saw -/

/-- SDU's record with the contactor command written; a change starts the confirm watch (R113). -/
def withContactor (c : Contactor) (now : Nat) (d : Sdu) : Sdu :=
  if d.contactor = c then d else { d with contactor := c, confirm := .pending, confirmTimer := .running (now + 1000000) }

/-- SDU's record with the contactor commanded OFF and feed 0 (R115, R117, R118, R122). -/
def commandedOff (now : Nat) (d : Sdu) : Sdu := { withContactor .off now d with feed := 0 }

/-- A timer suspended at a time: one that runs or is frozen keeps its remaining time, any other stands (R113, R120). -/
def suspendedAt (now : Nat) (x : HeldTimer) : HeldTimer :=
  match x with
  | .running d => .suspended (d - now) false
  | .frozen left => .suspended left true
  | .stopped => .stopped
  | .suspended left wasFrozen => .suspended left wasFrozen

/-- A timer frozen at a time: one that runs keeps its remaining time, any other stands (R114, R120). -/
def frozenAt (now : Nat) (x : HeldTimer) : HeldTimer :=
  match x with
  | .running d => .frozen (d - now)
  | .frozen left => .frozen left
  | .stopped => .stopped
  | .suspended left wasFrozen => .suspended left wasFrozen

/-- How SDU's record moves at a sample set, by the state it comes to and the contactor reading of the set: class, lockout,
permissive and f_set view stand; the sequence timers stand too, but that an entry to RUNDOWN or to FAULT stops them, starts
the rundown timer or not, and commands the contactor OFF, whose confirm watch the set's own reading can settle in RUNDOWN
alone (R106, R113, R115, R117; log 23). -/
def SawMoves (contact : Option Nat) (s t : State) : Prop :=
  let enters := fun x : SawState => t.sdu.state = x ∧ s.sdu.state ≠ x
  let broken : Prop := t.sdu.contactor = .off ∧ t.sdu.ringCheck = false ∧ t.sdu.starTimer = .stopped ∧
    t.sdu.deltaTimer = .stopped ∧ (s.sdu.contactor ≠ .off → t.rif.holding.sawContactor = some 0)
  let starts : Prop := t.sdu.confirm = .pending ∧ t.sdu.confirmTimer = .running (s.now + 1000000)
  t.sdu.cls = s.sdu.cls ∧ t.sdu.lockout = s.sdu.lockout ∧ t.sdu.permissive = s.sdu.permissive ∧
  t.sdu.fSetView = s.sdu.fSetView ∧
  (enters .rundown → broken ∧
    t.sdu.rundownTimer = .running (s.now + ((t.sdu.values.map (·.rundownTime)).getD 0) * 1000 * 1000) ∧
    (s.sdu.contactor ≠ .off → contact = some 0 → t.sdu.confirm = .confirmed ∧ t.sdu.confirmTimer = .stopped) ∧
    (s.sdu.contactor ≠ .off → contact ≠ some 0 → starts)) ∧
  (enters .fault → broken ∧ t.sdu.rundownTimer = .stopped ∧ (s.sdu.contactor ≠ .off → starts)) ∧
  (¬enters .rundown → ¬enters .fault →
    t.sdu.starTimer = s.sdu.starTimer ∧ t.sdu.deltaTimer = s.sdu.deltaTimer ∧
    t.sdu.rundownTimer = s.sdu.rundownTimer)

/-- The saw has gone to RUNDOWN (R117). -/
def RunsDown (reason : SawReason) (u t : State) : Prop :=
  t.sdu = { withContactor .off u.now u.sdu with
    state := .rundown, reason := reason, starTimer := .stopped, deltaTimer := .stopped, stallTimer := .stopped
    ringCheck := false, feed := 0
    rundownTimer := .running (u.now + ((u.sdu.values.map (·.rundownTime)).getD 0) * 1000 * 1000) } ∧
  t.rif.holding.feed = some 0 ∧ (u.sdu.contactor ≠ .off → t.rif.holding.sawContactor = some 0)

/-- The saw has gone to FAULT (R115). -/
def FaultsWith (reason : SawReason) (u t : State) : Prop :=
  t.sdu = { withContactor .off u.now u.sdu with
    state := .fault, reason := reason, starTimer := .stopped, deltaTimer := .stopped, rundownTimer := .stopped
    stallTimer := .stopped, ringCheck := false, feed := 0 } ∧
  t.rif.holding.feed = some 0 ∧ (u.sdu.contactor ≠ .off → t.rif.holding.sawContactor = some 0) ∧
  .latchNotice .sawFault ∈ t.issued ∧
  (u.sdu.state = .queued ∨ u.sdu.state = .star ∨ u.sdu.state = .delta → ClaimLeaves .saw u t)

/-- The saw has gone to STOPPED with a reason; a pending SAW swap has been taken (R108). -/
def Stops (reason : SawReason) (u t : State) : Prop :=
  t.sdu = { u.sdu with
    state := .stopped, reason := reason, values := t.sdu.values, entryState := t.sdu.entryState } ∧
  (table .saw t).pending = false ∧
  ((table .saw u).pending = false → t.sdu.values = u.sdu.values ∧ t.sdu.entryState = u.sdu.entryState) ∧
  ∀ img, (table .saw u).pending = true → ownerReads .saw 1 u = .good img → t.sdu.values = some (sawEntry img)

/-! ### Accounts -/

/-- Energy in W·ms has been added to an account under a band, with the carry of one Wh (R148, R151). -/
def AddsEnergy (band : TariffBand) (e : Nat) (a b : Account) : Prop :=
  (a.remainder + e < 3600000 → b = { a with remainder := a.remainder + e }) ∧
  (3600000 ≤ a.remainder + e →
    b.remainder + 3600000 = a.remainder + e ∧ b.daily = min (a.daily + 1) 65535 ∧ b.gap = a.gap ∧
    (∀ other, other ≠ band → bandTotal other b = bandTotal other a) ∧
    (bandTotal band a < 4294967295 → bandTotal band b = bandTotal band a + 1 ∧ b.atMax = a.atMax) ∧
    (4294967295 ≤ bandTotal band a → bandTotal band b = bandTotal band a ∧ b.atMax = true))

/-! ### Calendar, schedule and tables -/

/-- Seconds of the day that the calendar shows. -/
def secondOfDay (c : Csu) : Nat := c.hour * 3600 + c.minute * 60 + c.second

/-- A calendar date and time (R159). -/
def CalendarInRange (c : Csu) : Prop :=
  2000 ≤ c.year ∧ c.year ≤ 2099 ∧ 1 ≤ c.month ∧ c.month ≤ 12 ∧ 1 ≤ c.day ∧ c.day ≤ monthLength (leapYear c.year) c.month ∧
  c.hour ≤ 23 ∧ c.minute ≤ 59 ∧ c.second ≤ 59

/-- A SCHEDULE entry matches a stamp (R166). -/
def EntryMatches (e : ScheduleEntry) (t : Stamp) (holiday : Prop) : Prop :=
  e.enabled = true ∧ e.minute = t.minute ∧ (∀ h, e.hour = some h → h = t.hour) ∧
  e.weekdays.testBit (weekdayIndex t.weekday) = true ∧ (∀ d, e.date = some d → d = t.day) ∧
  (e.holiday = .skipHolidays → ¬holiday) ∧ (e.holiday = .holidaysOnly → holiday)

/-- What a read of an entry of the standby bank returns. -/
def standbyReads (t : TableId) (i : Nat) (s : State) : ReadResult :=
  resultOf (entryAt t (otherBank (table t s).active) i s)

/-- An entry of a bank fails a check of a SWAP's validation: DAMAGED, EMPTY in tables 1 to 8, a field out of its range, the
second present TRIM of the BALLAST, or the later of two SAMPLE entries of one kind and instance (R175). -/
def FailsCheck (t : TableId) (reads : Nat → ReadResult) (i : Nat) : Prop :=
  let trimAt : Nat → Prop := fun j =>
    ∃ img, reads j = .good img ∧ (ballastEntry img).present = true ∧ (ballastEntry img).trim = true
  reads i = .damaged ∨ (reads i = .empty ∧ (tableIndex t).val < 8) ∨
  (∃ img, reads i = .good img ∧ entryValid t i img = false) ∨
  (t = .ballast ∧ trimAt i ∧ ∃ j, 1 ≤ j ∧ j < i ∧ trimAt j) ∨
  (t = .slotMap ∧ ∃ img kind inst mult offset hold, reads i = .good img ∧
    slotRole img = .sample kind inst mult offset hold ∧
    ∃ j, 1 ≤ j ∧ j < i ∧ ∃ img' mult' offset' hold', reads j = .good img' ∧
      slotRole img' = .sample kind inst mult' offset' hold')

/-- An entry marked DAMAGED that has no record in a list (R179). -/
def WithoutRecord (l : List DamagedRef) (s : State) (d : DamagedRef) : Prop :=
  entryAt d.table d.bank d.index s = some .damaged ∧ d ∉ l

/-- The order in which R179 looks for entries: by table id, bank A before B, and index. -/
def refBefore (d e : DamagedRef) : Prop :=
  (tableIndex d.table).val < (tableIndex e.table).val ∨
  (d.table = e.table ∧ ((d.bank = .bankA ∧ e.bank = .bankB) ∨ (d.bank = e.bank ∧ d.index < e.index)))

/-- A record, if there is one, has left the damaged-entry list. With the overflow flag set, the first DAMAGED entry without a
record has become the latest record, and the flag is clear when no other remains (R179). -/
def RecordLeaves (d : DamagedRef) (s t : State) : Prop :=
  let rest := s.tbs.damagedList.erase d
  (d ∉ s.tbs.damagedList → t.tbs.damagedList = s.tbs.damagedList ∧ t.tbs.overflow = s.tbs.overflow) ∧
  (d ∈ s.tbs.damagedList → s.tbs.overflow = false → t.tbs.damagedList = rest ∧ t.tbs.overflow = false) ∧
  (d ∈ s.tbs.damagedList → s.tbs.overflow = true →
    ((∀ e, ¬WithoutRecord rest t e) → t.tbs.damagedList = rest ∧ t.tbs.overflow = false) ∧
    ∀ e, WithoutRecord rest t e → (∀ f, WithoutRecord rest t f → f ≠ e → refBefore e f) →
      t.tbs.damagedList = rest ++ [e] ∧ (t.tbs.overflow = true ↔ ∃ f, WithoutRecord rest t f ∧ f ≠ e))

/-- No taken read request stands for a read command: its answer is the record as it stands (R196; log 45). -/
def ReadsNow (c : Instr) (s : State) : Prop := ∀ r, s.mmb.reading = some r → r.event ≠ c

/-- The answer of an owner with a page of a live record (R195, R196). -/
def pageAnswer (status : Status) (fields : List LiveField) (page : Word) : Instr :=
  match livePage (liveImage fields) page with
  | some w => .ownerAnswer status w
  | none => plainAnswer .badArgument

/-- A state in which a command has been answered with a page of a record, and nothing else has changed. -/
def pageRead (c : Instr) (status : Status) (fields : List LiveField) (page : Word) (s : State) : State :=
  { s with issued := flightAfter c s [pageAnswer status fields page] }

/-! ### Requests -/

/-- A request of a kind code asks by its data words for a command of its owner (Formats, Mailbox requests and answers). -/
def Asks (kind : Nat) (w : Words) (c : Instr) : Prop :=
  let a := w[0].toNat
  let id : Byte := BitVec.ofNat 8 (a / 2 ^ 24)
  let low : Byte := BitVec.ofNat 8 (a % 2 ^ 8)
  let bit16 := decide (a / 2 ^ 16 % 2 = 1)
  (kind = 1 ∧ c = .readEntry id (if bit16 = true then .standby else .active) low) ∨
  (kind = 2 ∧ ∃ image : Image, (∀ i : Fin 7, image[i] = w[i.val + 1]) ∧ c = .writeEntry id low bit16 image) ∨
  (kind = 3 ∧ c = .copyActive id) ∨
  (kind = 4 ∧ c = .swap id low) ∨
  (kind = 5 ∧
    ((a = 1 ∧ c = .readLiveQuantity w[1] w[2]) ∨ (a = 2 ∧ c = .readLiveRegulator w[2]) ∨
     (a = 3 ∧ c = .readLivePlant w[2]) ∨ (a = 4 ∧ c = .readLiveClaimListEntry w[1] w[2]) ∨
     (a = 5 ∧ c = .readLiveShedListEntry w[1] w[2]) ∨ (a = 6 ∧ c = .readLiveSaw w[2]) ∨
     (a = 7 ∧ c = .readLiveFeeder w[1] w[2]) ∨ (a = 8 ∧ c = .readLiveAccount w[1] w[2]) ∨
     (a = 9 ∧ c = .readLiveCalendar w[2]) ∨ (a = 10 ∧ c = .readLiveDamagedListEntry w[1] w[2]) ∨
     (a = 11 ∧ c = .readLiveLastCorrection w[2]))) ∨
  (kind = 6 ∧
    ((a = 1 ∧ c = .plantStart) ∨ (a = 2 ∧ c = .plantStop) ∨ (a = 3 ∧ c = .plantTrip) ∨ (a = 4 ∧ c = .plantRestart) ∨
     (a = 5 ∧ c = .plantEnterCommission) ∨ (a = 6 ∧ c = .plantLeaveCommission))) ∨
  (kind = 7 ∧ ((a = 1 ∧ c = .sawStart) ∨ (a = 2 ∧ c = .sawStop) ∨ (a = 3 ∧ c = .sawClear))) ∨
  (kind = 8 ∧
    ((w[1].toNat = 1 ∧ c = .feederWantOn .management w[0]) ∨ (w[1].toNat = 2 ∧ c = .feederWantOff .management w[0]) ∨
     (w[1].toNat = 3 ∧ c = .feederClear w[0]))) ∨
  (kind = 9 ∧ c = .calendarSet w[0] w[1] w[2] w[3] w[4] w[5]) ∨
  (kind = 10 ∧ c = .accountReset w[0]) ∨
  (kind = 11 ∧ c = .summaryRead w[0] w[1]) ∨
  (kind = 12 ∧ c = .attentionRead) ∨
  (kind = 13 ∧ c = .attentionClear w[0]) ∨
  (kind = 14 ∧ c = .attentionMask w[0])

/-! ### The ring -/

/-- A slot of a frame carries a raw value and a quality (R192). -/
def SlotCarries (f : List Byte) (k : Nat) (raw : Nat) (q : Quality) : Prop :=
  byteAt f (7 + 3 * k) ++ byteAt f (8 + 3 * k) = BitVec.ofNat 16 raw ∧ byteAt f (9 + 3 * k) = BitVec.ofNat 8 (qualityCode q)

/-- A slot of an emitted frame, from its entry as read, the command holding and the ring state (R5). -/
def SlotComposed (f : List Byte) (k : Nat) (read : ReadResult) (h : Holding) (ring : RingState) : Prop :=
  (∀ img kind inst safe, read = .good img → slotRole img = .command kind inst safe →
    (ring = .down → SlotCarries f k safe .held) ∧
    (∀ v, ring = .up → holdingValue h kind inst = some v → SlotCarries f k v .good) ∧
    (ring = .up → holdingValue h kind inst = none → SlotCarries f k 0 .empty)) ∧
  ((∀ img kind inst safe, read = .good img → slotRole img ≠ .command kind inst safe) → SlotCarries f k 0 .empty)

/-- The mailbox regions of an emitted frame: the request region empty, and the response region empty or with a response
(R6, R188). -/
def RegionsComposed (f : List Byte) (response : Option Response) : Prop :=
  byteAt f 199 = 0xFF#8 ∧ (∀ i, 200 ≤ i → i < 234 → byteAt f i = 0) ∧
  (response = none → byteAt f 234 = 0xFF#8 ∧ ∀ i, 235 ≤ i → i < 269 → byteAt f i = 0) ∧
  ∀ r, response = some r →
    byteAt f 234 = r.addressee ∧ byteAt f 235 = r.tag.setWidth 8 ∧
    byteAt f 236 = BitVec.ofNat 8 (statusCode r.status) ∧ ∀ i : Fin 8, wordAt f (237 + 4 * i.val) = r.words[i]

/-- Direction, kind and instance of a slot entry as it stands; none where it is EMPTY or DAMAGED (R19). -/
def slotMeaning (e : Option Stored) : Option (Nat × Nat × Nat) :=
  match e with
  | some (.good img _) => some (entryField .slotMap 1 img 0, entryField .slotMap 1 img 1, entryField .slotMap 1 img 2)
  | _ => none

/-- A pending SLOT MAP swap has been taken: the banks have exchanged roles, and the records of the slots whose direction,
kind or instance changed are restarted (R19, R27). With none pending the records stand. -/
def MapSwapTaken (s t : State) : Prop :=
  let old := (table .slotMap s).active
  ((table .slotMap s).pending = false →
    t.miu.records = s.miu.records ∧ (table .slotMap t).active = old ∧ t.rif.period = s.rif.period) ∧
  ((table .slotMap s).pending = true →
    (table .slotMap t).pending = false ∧ (table .slotMap t).active = otherBank old ∧
    (∀ img, ownerReads .slotMap 0 s = .good img → t.rif.period = headerPeriod img) ∧
    (readStatus (ownerReads .slotMap 0 s) ≠ .good → t.rif.period = s.rif.period) ∧
    ∀ k : Fin 64, t.miu.records[k] =
      if slotMeaning (entryAt .slotMap old (k.val + 1) s) = slotMeaning (entryAt .slotMap (otherBank old) (k.val + 1) s)
      then s.miu.records[k]
      else { s.miu.records[k] with value := none, freq := none, age := 0, atLimit := false })

/-- A round closed as good: its counts, the ring brought up by the fourth good closure in a row, and the events. -/
def AcceptedAs (o : Outstanding) (f : List Byte) (s t : State) : Prop :=
  t.rif = { s.rif with
    outstanding := none, late := none, goodRun := min (s.rif.goodRun + 1) 255, badRun := 0
    ring := if s.rif.ring = .down ∧ s.rif.goodRun = 3 then .up else s.rif.ring } ∧
  t = { s with rif := t.rif, issued := t.issued } ∧
  t.issued = s.issued ++ (if s.rif.ring = .down ∧ s.rif.goodRun = 3 then [.fcuRingUp] else []) ++
    [.miuRoundClosure (.accepted (returnedSlots f) t.rif.ring o.round o.period),
     .tsuRoundClosure (.accepted (returnedSlots f) t.rif.ring o.round o.period),
     .mmbRequestRegion (returnedRegion f o.eligibleFrom)]

/-- A round closed as rejected: its counts, the ring brought down by the third bad closure in a row, and the events. -/
def RejectedFrom (s t : State) : Prop :=
  t.rif = { s.rif with
    outstanding := none, late := none, goodRun := 0, badRun := min (s.rif.badRun + 1) 255
    ring := if s.rif.ring = .up ∧ s.rif.badRun = 2 then .down else s.rif.ring } ∧
  t = { s with rif := t.rif, issued := t.issued } ∧
  t.issued = s.issued ++
    (if s.rif.ring = .up ∧ s.rif.badRun = 2 then [.fcuRingDown, .sduRingDown, .mmbRingDown] else []) ++
    [.miuRoundClosure .rejected, .tsuRoundClosure .rejected]

end Sys2Proof.Machine
end

