-- ==== Sys2Proof/Certificates/Slice0/Obligations.lean ====
section
/-! DEFINITION. The statements for the provers. -/

open Sys2Proof Sys2Proof.Machine

/-! ### The step -/

/-- A step with a command at the front of the queue is that command's meaning on the state with the queue's rest. -/
def Obligations.StepRunsTheFrontCommand : Prop :=
  ∀ (c : Instr) (rest : List Instr) (s : State), s.pending = c :: rest → step s = exec c { s with pending := rest }

/-- The model's choice (log 1): with an empty queue the part takes the first event in flight, else the first due
expiry, else one microsecond passes. In it the upsets of the free value strike the entries they name, which no read
has looked at (log 12); the banks keep their roles, and the marks, generations, histories and records of the store
stand. -/
def Obligations.EmptyQueueGoesOn : Prop :=
  ∀ s : State, s.pending = [] →
    (∀ e es, s.issued = e :: es → step s = exec e s) ∧
    (s.issued = [] → ∀ c cs, dueCommands s = c :: cs → step s = exec c s) ∧
    (s.issued = [] → dueCommands s = [] →
      ∃ t, step s = .next t ∧ t.now = s.now + 1 ∧ t = { s with now := t.now, csu := t.csu, tbs := t.tbs } ∧
        t.csu = { s.csu with divider := if calendarCounts s then s.csu.divider + 1 else s.csu.divider } ∧
        t.tbs = { s.tbs with tables := t.tbs.tables } ∧
        (∀ x : TableId, table x t = { table x s with bankA := (table x t).bankA, bankB := (table x t).bankB }) ∧
        (TablesCanonical s → ∀ x b i,
          entryAt x b i t = struck x b i (Config.upsetsAt s.now) (entryAt x b i s)))

/-- The model's choice (log 9): without the main supply the part stands still, but for the supplies themselves, the
calendar on the backup supply and the level of the permissive input, which is recorded for the next start. A rollover
has no effect where no supply lets the calendar count. -/
def Obligations.UnpoweredPartStandsStill : Prop :=
  ∀ (c : Instr) (s : State), s.mainPresent = false →
    (c ≠ .powerOnRetentionKept → c ≠ .powerOnRetentionLost → c ≠ .mainSupplyLoss → c ≠ .backupSupplyLoss →
      c ≠ .dividerRollover → (∀ level, c ≠ .permissiveChange level) → exec c s = .next s) ∧
    (∀ level : Permissive, exec (.permissiveChange level) s = .next { s with permissivePin := level }) ∧
    (calendarCounts s = false → exec .dividerRollover s = .next s)

/-! ### Starts and supplies -/

/-- A warm reset, and a power-on with retention kept, keep the retained domain and give every block its reset values,
with what its end-of-reset reads bring; the plant comes up TRIPPED exactly when the trip latch is set, with full
ballast. The model's own choices in it: log 6 (the reference edge time, and the grant band before a GOOD BALANCE
read), 7, 8 (no event in flight survives a start), 10, 33 (the last GOOD reads of MIU are its own, and it has made
none), 35 (the class from an entry with present no). -/
def Obligations.StartsKeepTheRetainedDomain : Prop :=
  ∀ s : State,
    (s.mainPresent = true → RunsTo .warmReset s fun t =>
      KeepsRetained s t ∧ FreshlyStarted s t ∧ (TablesCanonical s → StartsFromTables s t)) ∧
    (s.retentionHeld = true → RunsTo .powerOnRetentionKept s fun t =>
      KeepsRetained s t ∧ FreshlyStarted s t ∧ (TablesCanonical s → StartsFromTables s t))

/-- A power-on with retention lost leaves the reset state, whatever the state before: only the queue, the timebase and
the level of the permissive input come from it. The loss of the main supply releases the trip output and ends every
event in flight; the loss of the backup supply while the main supply is absent loses the retained domain and stops
the calendar. The model's own choices in it: log 6, 8, 10, 11. -/
def Obligations.LossesOfRetentionAndSupply : Prop :=
  ∀ s : State,
    exec .powerOnRetentionLost s = .next
      { State.reset with
        pending := s.pending, now := s.now, permissivePin := s.permissivePin
        rif := { State.reset.rif with roundTimer := .running (s.now + 10000) }
        sdu := { State.reset.sdu with permissive := s.permissivePin } } ∧
    RunsTo .mainSupplyLoss s (fun t => t = { s with mainPresent := false, issued := [] } ∧ tripOutput t = false) ∧
    (s.mainPresent = false → RunsTo .backupSupplyLoss s fun t =>
      t = { s with
        retentionHeld := false, tsu := t.tsu, fcu := t.fcu, eau := t.eau, csu := t.csu, tbs := t.tbs } ∧
      t.retentionHeld = false ∧ calendarCounts t = false ∧ t.tsu.tripLatch = false ∧ t.tsu.tripCause = none ∧
      (∀ n : Feeder, (feeder n t).desired = false) ∧ t.eau = Eau.reset ∧ t.csu = Csu.reset ∧
      ∀ x b i, entryAt x b i t = none) ∧
    (s.mainPresent = true → exec .backupSupplyLoss s = .next s)

/-- The reset state meets every promise that the steps keep. -/
def Obligations.ResetMeetsEveryPromise : Prop :=
  TripLineFollowsMode State.reset ∧ GateShutOutsideOperation State.reset ∧ PermissiveHoldsSawOff State.reset ∧
  HoldingCarriesCommands State.reset ∧ OneClaimPerHolder State.reset ∧ ClaimListInForm State.reset ∧
  ShedListInForm State.reset ∧ HoldersStand State.reset ∧ EligibleFromIsPosition State.reset ∧
  RingCountsFit State.reset ∧ DemandWithinCapacity State.reset ∧ TablesCanonical State.reset ∧
  GateWithinMaximum State.reset ∧ QuietOutsideRun State.reset

/-! ### Promises that every step keeps -/

/-- The trip line follows the plant mode, the gate is shut in STANDBY, COMMISSION and TRIPPED, and the gate setpoint
does not exceed the TURBINE gate maximum in force, step by step. -/
def Obligations.TripLineAndGateFollowTheMode : Prop :=
  (∀ s t : State, TripLineFollowsMode s ∧ GateShutOutsideOperation s → step s = .next t →
    TripLineFollowsMode t ∧ GateShutOutsideOperation t) ∧
  ∀ s t : State, TablesCanonical s ∧ GateWithinMaximum s → step s = .next t → GateWithinMaximum t

/-- An open permissive holds the saw off, step by step. -/
def Obligations.OpenPermissiveHoldsTheSawOff : Prop :=
  ∀ s t : State, PermissiveHoldsSawOff s → step s = .next t → PermissiveHoldsSawOff t

/-- The command holding carries what the blocks command, the ballast commands among them, step by step; and outside
RUN, once no notice of the change out of RUN is in flight, every breaker command is OPEN, the saw contactor command is
OFF and the claim list and the shed list are empty, step by step. -/
def Obligations.HoldingAlwaysCarriesTheCommands : Prop :=
  (∀ s t : State, HoldingCarriesCommands s → step s = .next t → HoldingCarriesCommands t) ∧
  ∀ s t : State, HoldingCarriesCommands s ∧ PermissiveHoldsSawOff s ∧ QuietOutsideRun s → step s = .next t →
    QuietOutsideRun t

/-- At most one claim per holder, no feeder claims but the one being restored, the claim list and the shed list in
their forms, sorted, with a feeder SHED exactly when it has an entry, and every record and restore with a holder in a
state that has one, step by step. The promise of the open permissive, a statement of its own, keeps a pending ring
check to RUN. The model's own choice in it: log 47. -/
def Obligations.ClaimAndShedListsKeepTheirForm : Prop :=
  ∀ s t : State,
    OneClaimPerHolder s ∧ ClaimListInForm s ∧ ShedListInForm s ∧ HoldersStand s ∧ PermissiveHoldsSawOff s →
    step s = .next t → OneClaimPerHolder t ∧ ClaimListInForm t ∧ ShedListInForm t ∧ HoldersStand t

/-- The banks keep their canonical form, and the damaged-entry list its distinct records of DAMAGED entries, at most 16,
step by step. -/
def Obligations.TablesStayCanonical : Prop :=
  ∀ s t : State, TablesCanonical s → step s = .next t → TablesCanonical t

/-- The eligible-from position, the run counts, the round number and the ballast demand keep their ranges. -/
def Obligations.RangesAreKept : Prop :=
  ∀ s t : State, EligibleFromIsPosition s ∧ RingCountsFit s ∧ DemandWithinCapacity s → step s = .next t →
    EligibleFromIsPosition t ∧ RingCountsFit t ∧ DemandWithinCapacity t

/-- Band totals never decrease, except by ACCOUNT-RESET in COMMISSION and by retention loss. -/
def Obligations.BandTotalsNeverDecrease : Prop :=
  ∀ (c : Instr) (s t : State), exec c s = .next t → c ≠ .powerOnRetentionLost → c ≠ .backupSupplyLoss →
    (∀ n, c = .accountReset n → s.tsu.mode ≠ .commission) →
    ∀ (band : TariffBand) (i : Fin 14), bandTotal band (account i s) ≤ bandTotal band (account i t)

/-- A table's active bank changes only where a swap was pending, and a swap becomes pending only by a SWAP request whose
standby bank passed validation; retention loss apart. -/
def Obligations.ActiveBankChangesBySwapAlone : Prop :=
  ∀ (c : Instr) (s t : State), exec c s = .next t → c ≠ .powerOnRetentionLost → c ≠ .backupSupplyLoss →
    ∀ x : TableId,
      ((table x t).active ≠ (table x s).active →
        (table x s).pending = true ∧ (table x t).pending = false ∧ (table x t).history = true) ∧
      ((table x s).pending = false → (table x t).pending = true →
        ∃ id g, c = .swap id g ∧ tableOfId id.toNat = some x ∧ (validate x (take c s)).1 = none)

/-! ### The ring -/

/-- A round timer expiry closes an outstanding round as lost, with the ring-down announcement of a third bad closure
in a row and the closures that it hands on, takes a pending SLOT MAP swap with the period and the restarts it brings,
advances the round number, re-arms the timer and emits a frame of 272 bytes that passes its own check: its header, its
64 slots by entry, holding and ring state, and the pending response in its region. The model's own choices in it: log
2; 5 (the order of issue); 16; 36 (the map change compares the slot entries as they stand, without an ECC read). -/
def Obligations.RoundTimerExpiryEmits : Prop :=
  ∀ (s : State) (d : Nat), s.mainPresent = true → s.rif.roundTimer = .running d →
    RunsTo .roundTimerExpiry s fun t =>
      RoundAlone (advanceTo d s) t ∧ t.now = max s.now d ∧
      t.rif.lastRound = (s.rif.lastRound + 1) % 256 ∧
      t.rif.roundTimer = .running (t.now + t.rif.period * 1000) ∧
      t.rif.outstanding =
        some { round := t.rif.lastRound, period := t.rif.period, eligibleFrom := s.mmb.eligibleFrom } ∧
      t.rif.late = s.rif.outstanding.map (·.round) ∧
      (s.rif.outstanding.isSome = true →
        t.rif.badRun = min (s.rif.badRun + 1) 255 ∧ t.rif.goodRun = 0 ∧
        t.rif.ring = (if s.rif.ring = .up ∧ s.rif.badRun = 2 then .down else s.rif.ring)) ∧
      (s.rif.outstanding = none →
        t.rif.badRun = s.rif.badRun ∧ t.rif.goodRun = s.rif.goodRun ∧ t.rif.ring = s.rif.ring) ∧
      t.mmb = { s.mmb with response := none } ∧ MapSwapTaken s t ∧
      IssuesOn
        (s.issued ++
          (if s.rif.outstanding.isSome = true then
            (if s.rif.ring = .up ∧ s.rif.badRun = 2 then [.fcuRingDown, .sduRingDown, .mmbRingDown] else []) ++
            [.miuRoundClosure .lost, .tsuRoundClosure .lost]
           else [])) t.issued [] ∧
      ∃ f, t.rif.emitted = some f ∧ f.length = 272 ∧ crcPasses f = true ∧ fromStartMarker f = some f ∧
        byteAt f 2 = BitVec.ofNat 8 t.rif.lastRound ∧ byteAt f 3 = BitVec.ofNat 8 (modeCode s.tsu.mode) ∧
        byteAt f 4 = BitVec.ofNat 8
          ((if t.rif.ring = .up then 1 else 0) + (if attentionMarker s.mmb = true then 2 else 0)) ∧
        byteAt f 5 = BitVec.ofNat 8 s.sbu.shedList.length ∧ byteAt f 6 = BitVec.ofNat 8 s.mmb.eligibleFrom ∧
        spoilt f = false ∧ RegionsComposed f s.mmb.response ∧
        (TablesCanonical s → ∀ k : Fin 64,
          SlotComposed f k.val (ownerReads .slotMap (k.val + 1) s) s.rif.holding t.rif.ring)

/-- An arrival is judged against the outstanding round: ACCEPTED, REJECTED, or late and without effect; a truncated one
is REJECTED; and with no round outstanding every arrival is a stray. The model's own choices in it: log 5 (the order of
issue), 14, 15, 16. -/
def Obligations.ArrivalsAreJudged : Prop :=
  ∀ (s : State) (bytes f : List Byte), s.mainPresent = true → fromStartMarker bytes = some f →
    (∀ (o : Outstanding) (g : List Byte), s.rif.outstanding = some o → 272 ≤ f.length → g = f.take 272 →
      (crcPasses g = true → returnedRound g = o.round → spoilt g = false →
        RunsTo (.frameArrival bytes) s (AcceptedAs o g s)) ∧
      (crcPasses g = true → returnedRound g = o.round → spoilt g = true →
        RunsTo (.frameArrival bytes) s (RejectedFrom s)) ∧
      (crcPasses g = true → returnedRound g ≠ o.round → s.rif.late ≠ some (returnedRound g) →
        RunsTo (.frameArrival bytes) s (RejectedFrom s)) ∧
      (crcPasses g = true → returnedRound g ≠ o.round → s.rif.late = some (returnedRound g) →
        exec (.frameArrival bytes) s = .next s) ∧
      (crcPasses g = false → RunsTo (.frameArrival bytes) s (RejectedFrom s))) ∧
    (∀ o : Outstanding, s.rif.outstanding = some o → f.length < 272 →
      RunsTo (.ringInIdle bytes) s (RejectedFrom s)) ∧
    (s.rif.outstanding = none → exec (.frameArrival bytes) s = .next s ∧ exec (.ringInIdle bytes) s = .next s)

/-! ### Measurement intake -/

/-- A REJECTED or LOST closure ages every record in use that has a value, and does nothing else. The model's own
choice in it: log 36 (the look whether a channel is in use is no read). -/
def Obligations.BadClosuresAgeRecords : Prop :=
  ∀ (c : Closure) (s : State), s.mainPresent = true → c = .rejected ∨ c = .lost →
    RunsTo (.miuRoundClosure c) s fun t =>
      t = { s with
        issued := s.issued.erase (.miuRoundClosure c), miu := { s.miu with records := t.miu.records } } ∧
      ∀ k : Fin 64, t.miu.records[k] =
        if (recordUse k.val s).isSome = true ∧ s.miu.records[k].value.isSome = true then
          { s.miu.records[k] with age := min (s.miu.records[k].age + 1) 255 }
        else s.miu.records[k]

/-- An ACCEPTED closure takes every SAMPLE slot by its entry: converted, clamped or rejected, aged, and with its
frequency; a DAMAGED entry restarts its record, any other leaves it; and in UP the sample set is published to six
blocks. The model's own choice in it: log 5 (the order of issue to the six). -/
def Obligations.AcceptedClosureTakesSlots : Prop :=
  ∀ (slots : Vector Slot 64) (ring : RingState) (round period : Nat) (s : State), s.mainPresent = true →
    TablesCanonical s →
    RunsTo (.miuRoundClosure (.accepted slots ring round period)) s fun t =>
      (∃ set : SampleSet, set.round = round ∧ set.period = period ∧ set.records = currentRecords t ∧
        set.shaft = s.miu.shaft ∧
        Issues (.miuRoundClosure (.accepted slots ring round period)) s t
          (if ring = .up then
            [.frgSampleSet set, .tsuSampleSet set, .sbuSampleSet set, .sduSampleSet set, .fcuSampleSet set,
             .eauSampleSet set] else [])) ∧
      MiuAlone s t ∧ t.miu = { s.miu with records := t.miu.records } ∧
      (∀ k : Fin 64, activeReads .slotMap (k.val + 1) s = .damaged →
        t.miu.records[k] = { s.miu.records[k] with value := none, freq := none, age := 0, atLimit := false }) ∧
      (∀ k : Fin 64, activeReads .slotMap (k.val + 1) s ≠ .damaged →
        (∀ img kind inst mult offset hold, activeReads .slotMap (k.val + 1) s = .good img →
          slotRole img ≠ .sample kind inst mult offset hold) → t.miu.records[k] = s.miu.records[k]) ∧
      ∀ (k : Fin 64) (img : Image) (kind : SampleKind) (inst mult hold : Nat) (offset : Int),
        activeReads .slotMap (k.val + 1) s = .good img → slotRole img = .sample kind inst mult offset hold →
        let r := s.miu.records[k]
        let q := slots[k].quality
        let x : Int := (((slots[k].raw.toNat * mult + 512) / 1024 : Nat) : Int) + offset
        let lo : Int := ((sampleRange kind).1 : Int)
        let hi : Int := ((sampleRange kind).2 : Int)
        let stored := fun (v : Nat) (limit : Bool) => { r with
          hold := hold, value := some v, atLimit := limit
          age := if q = .good then 0 else min (r.age + 1) 255
          freq := if kind = .cyclePeriod then some ((2 * 1000000000 + v) / (2 * v)) else none }
        let failed := { r with hold := hold, age := if r.value.isSome = true then min (r.age + 1) 255 else r.age }
        (q = .good ∨ q = .held →
          (lo ≤ x → x ≤ hi → t.miu.records[k] = stored x.toNat false) ∧
          (x < lo → sampleClamps kind = true → t.miu.records[k] = stored (sampleRange kind).1 true) ∧
          (hi < x → sampleClamps kind = true → t.miu.records[k] = stored (sampleRange kind).2 true) ∧
          (x < lo ∨ hi < x → sampleClamps kind = false → t.miu.records[k] = failed)) ∧
        (q = .fault ∨ q = .empty → t.miu.records[k] = failed)

/-- A rising edge is bounce, starts a measurement, or makes a capture with the period since the last accepted edge. A
shaft timer that has run out before the edge has expired first: after a loss the edge starts a new measurement, and
TSU has its notice. The pulse-loss time and the scale come from the PROTECTION and the TURBINE entry; while one is not
GOOD, those of its last GOOD read since the reset scale and time the capture, and with none the time is 2,000 ms and
the capture records its period alone. The model's own choices in it: log 3; 33 (the last GOOD read is the last that
MIU itself made). -/
def Obligations.ShaftEdgesMeasure : Prop :=
  ∀ (us : Nat) (s : State), s.mainPresent = true →
    let x := s.miu.shaft
    let now := s.now + us
    let lost : Prop := ∃ d, x.loss = .running d ∧ d < now
    let late := match x.overdue with | .running d => decide (d < now) | .stopped => false
    let aged : Shaft :=
      { x with
        overdue := if late = true then .stopped else x.overdue
        state := if late = true ∧ x.state = .fresh then .held else x.state }
    let wasCurrent := isCurrent x.state
    let pulseLoss :=
      match activeReads .protection 1 s with
      | .good img => some (protectionEntry img).pulseLoss
      | _ => s.miu.lastPulseLoss
    let scale :=
      match activeReads .turbine 1 s with
      | .good img => some (scaleOf img)
      | _ => s.miu.lastScale
    let loss := Timer.running (now + pulseLoss.getD 2000 * 1000)
    (¬lost → x.started = true → now - x.refTime < 50 → RunsTo (.shaftRisingEdge us) s fun t =>
      t = { elapse us s with miu := { s.miu with shaft := aged } }) ∧
    (¬lost → x.started = false → RunsTo (.shaftRisingEdge us) s fun t =>
      MiuAlone (elapse us s) t ∧ IssuesOn s.issued t.issued [] ∧
      t.miu = { s.miu with
        shaft := { aged with started := true, refTime := now, loss := loss }, lastPulseLoss := pulseLoss }) ∧
    (¬lost → x.started = true → 50 ≤ now - x.refTime → TablesCanonical s →
      RunsTo (.shaftRisingEdge us) s fun t =>
        let tt := now - x.refTime
        let measured := { aged with
          started := true, refTime := now, tt := some tt, overdue := .running (now + 2 * tt), loss := loss }
        MiuAlone (elapse us s) t ∧
        t.miu = { s.miu with shaft := t.miu.shaft, lastPulseLoss := pulseLoss, lastScale := scale } ∧
        (scale = none → t.miu.shaft = measured ∧ IssuesOn s.issued t.issued []) ∧
        ∀ v, scale = some v →
          let speed := roundHalfUp 60000000 (v.teeth * tt)
          let f := min (roundHalfUp (v.polePairs * v.beltNum * 1000000000) (v.beltDen * v.teeth * tt)) 4294967295
          t.miu.shaft = { measured with state := .fresh, speed := some speed, fShaft := some f } ∧
          IssuesOn s.issued t.issued [.tsuCapture { tt := tt, speed := speed, fShaft := f }]) ∧
    (lost → RunsTo (.shaftRisingEdge us) s fun t =>
      MiuAlone (elapse us s) t ∧
      t.miu = { s.miu with
        lastPulseLoss := pulseLoss
        shaft := { x with
          started := true, refTime := now, overdue := .stopped, loss := loss
          state := if wasCurrent = true then .stale else x.state } } ∧
      IssuesOn (s.issued ++ if wasCurrent = true then [.tsuShaftLossNotice] else []) t.issued [])

/-- The overdue timer makes a FRESH shaft record HELD; the loss timer stops both, ends the measurement, and makes a
current record STALE with a notice to TSU. The model's own choices in it: log 2. -/
def Obligations.ShaftTimersAgeTheRecord : Prop :=
  ∀ (s : State) (d : Nat), s.mainPresent = true →
    (s.miu.shaft.overdue = .running d → RunsTo .overdueTimerExpiry s fun t =>
      t.now = max s.now d ∧ t = { advanceTo d s with miu := t.miu } ∧
      t.miu = { s.miu with
        shaft := { s.miu.shaft with
          overdue := .stopped, state := if s.miu.shaft.state = .fresh then .held else s.miu.shaft.state } }) ∧
    (s.miu.shaft.loss = .running d → RunsTo .lossTimerExpiry s fun t =>
      t.now = max s.now d ∧ t = { advanceTo d s with miu := t.miu, issued := t.issued } ∧
      t.miu = { s.miu with
        shaft := { s.miu.shaft with
          overdue := .stopped, loss := .stopped, started := false
          state := if s.miu.shaft.state = .fresh ∨ s.miu.shaft.state = .held then .stale else s.miu.shaft.state } } ∧
      t.issued = s.issued ++
        (if s.miu.shaft.state = .fresh ∨ s.miu.shaft.state = .held then [.tsuShaftLossNotice] else []))

/-! ### The regulator -/

/-- FRG's handling of a sample set: source, frequency and state; the demand by the PI law in TRACKING, with the last
error that the rule keeps, and held, zero or full otherwise; the histories; the ballast composed from the demand; the
reports of the elements, the accumulators of the second and of the minute, the energy carry, and the metering report
and ballast updates that carry what it has decided. The model's own choice in it: log 5 (the order of issue). -/
def Obligations.SampleSetMovesTheRegulator : Prop :=
  ∀ (set : SampleSet) (s : State), s.mainPresent = true → TablesCanonical s →
    RunsTo (.frgSampleSet set) s fun t =>
      let source := (setFrequency set).1
      let last :=
        if (table .regulator s).pending = true ∨ s.frg.source ≠ source then none else s.frg.lastError
      let hits : Vector Bool 8 → Vector Bool 8 → Bool → Prop := fun old new hit =>
        new[0] = hit ∧ ∀ (i : Nat) (h : i + 1 < 8), new[i + 1] = old[i]
      FrgAlone s t ∧ t.frg.summary = s.frg.summary ∧ t.frg.mode = s.frg.mode ∧ t.frg.source = source ∧
      t.frg.freq = (setFrequency set).2 ∧
      (s.frg.source = .alternator → source ≠ .alternator → .latchNotice .freqSourceFallback ∈ t.issued) ∧
      t.frg.state =
        (if s.frg.mode = .tripped then .forcedFull
         else if s.frg.mode = .commission ∨ readStatus (ownerReads .regulator 1 s) ≠ .good then .frozen
         else if (setFrequency set).2 = none then .hold else .tracking) ∧
      (table .regulator t).pending = false ∧ (table .ballast t).pending = false ∧
      (∀ img, ownerReads .regulator 1 s = .good img → (t.frg.fSet, t.frg.kp, t.frg.ki) = regulatorEntry img) ∧
      (readStatus (ownerReads .regulator 1 s) ≠ .good →
        t.frg.fSet = s.frg.fSet ∧ t.frg.kp = s.frg.kp ∧ t.frg.ki = s.frg.ki) ∧
      Composed (fun n => decide ((setView set .ballastStatus (n.val + 1)).current = some 1)) s t ∧
      (∀ f, t.frg.state = .tracking → (setFrequency set).2 = some f →
        let e : Int := max (-10000) (min 10000 ((f : Int) - t.frg.fSet))
        LawMoves (s.frg.remainder + t.frg.kp * (e - last.getD e) + t.frg.ki * e) s t ∧ t.frg.lastError = some e ∧
        hits s.frg.floorHistory t.frg.floorHistory (decide (t.frg.demand = 0 ∧ e < 0)) ∧
        hits s.frg.ceilingHistory t.frg.ceilingHistory (decide (t.frg.demand = t.frg.capacity ∧ 0 < e))) ∧
      (t.frg.state ≠ .tracking →
        t.frg.lastError = none ∧ t.frg.floorSticky = s.frg.floorSticky ∧ t.frg.ceilingSticky = s.frg.ceilingSticky ∧
        hits s.frg.floorHistory t.frg.floorHistory false ∧ hits s.frg.ceilingHistory t.frg.ceilingHistory false ∧
        (s.frg.mode = .tripped → t.frg.demand = t.frg.capacity ∧ t.frg.remainder = 0) ∧
        (s.frg.mode = .commission → t.frg.demand = 0 ∧ t.frg.remainder = 0) ∧
        (s.frg.mode ≠ .tripped → s.frg.mode ≠ .commission → DemandHeld s t)) ∧
      t.frg.secondSum = s.frg.secondSum + t.frg.demand ∧ t.frg.secondCount = s.frg.secondCount + 1 ∧
      t.frg.minute.sum = s.frg.minute.sum + t.frg.demand ∧ t.frg.minute.count = s.frg.minute.count + 1 ∧
      ((setFrequency set).2 = none →
        t.frg.minute.fMin = s.frg.minute.fMin ∧ t.frg.minute.fMax = s.frg.minute.fMax) ∧
      (∀ f, (setFrequency set).2 = some f →
        t.frg.minute.fMin = some (min f (s.frg.minute.fMin.getD f)) ∧
        t.frg.minute.fMax = some (max f (s.frg.minute.fMax.getD f))) ∧
      t.frg.minute.floorHits = s.frg.minute.floorHits + (if t.frg.floorHistory[0] = true then 1 else 0) ∧
      t.frg.minute.ceilingHits = s.frg.minute.ceilingHits + (if t.frg.ceilingHistory[0] = true then 1 else 0) ∧
      (∀ n : Element,
        t.frg.faults[n] = decide ((setView set .ballastStatus (n.val + 1)).current = some 1)) ∧
      t.frg.carry = (t.frg.trimShare * t.frg.trimRating * set.period + s.frg.carry) % 255 ∧
      Issues (.frgSampleSet set) s t
        [.eauMeteringReport
           (t.frg.stepSum * set.period + (t.frg.trimShare * t.frg.trimRating * set.period + s.frg.carry) / 255)
           (t.frg.stepSum + t.frg.trimShare * t.frg.trimRating / 255),
         .sbuBallastUpdate (ballastUpdateOf set.round t.frg), .tsuBallastUpdate (ballastUpdateOf set.round t.frg),
         .sduBallastUpdate (ballastUpdateOf set.round t.frg)]

/-- The PI law: while the proposed demand lies between 0 and the capacity, demand and remainder together move by exactly
the law's sum, in 1/256 W; a proposed demand outside is clamped, with its sticky flag and REG-SATURATED. -/
def Obligations.PiLawMovesDemandExactly : Prop :=
  ∀ (e : Int) (s : State),
    let acc : Int := (s.frg.remainder : Int) + s.frg.kp * (e - s.frg.lastError.getD e) + s.frg.ki * e
    let t := piLaw e s
    t.frg.lastError = some e ∧
    t = { s with
      issued := t.issued
      frg := { s.frg with
        demand := t.frg.demand, remainder := t.frg.remainder, lastError := t.frg.lastError
        floorSticky := t.frg.floorSticky, ceilingSticky := t.frg.ceilingSticky } } ∧
    (0 ≤ 256 * (s.frg.demand : Int) + acc → 256 * (s.frg.demand : Int) + acc < 256 * ((s.frg.capacity : Int) + 1) →
      256 * (t.frg.demand : Int) + t.frg.remainder = 256 * s.frg.demand + acc ∧ t.frg.remainder < 256 ∧
      t.issued = s.issued) ∧
    (256 * (s.frg.demand : Int) + acc < 0 →
      t.frg.demand = 0 ∧ t.frg.remainder = 0 ∧ t.frg.floorSticky = true ∧
      t.issued = s.issued ++ [.latchNotice .regSaturated]) ∧
    (256 * ((s.frg.capacity : Int) + 1) ≤ 256 * (s.frg.demand : Int) + acc →
      t.frg.demand = s.frg.capacity ∧ t.frg.remainder = 0 ∧ t.frg.ceilingSticky = true ∧
      t.issued = s.issued ++ [.latchNotice .regSaturated])

/-- R40: a mode notice at FRG. Entry to TRIPPED delivers the whole capacity into ballast, entry to COMMISSION delivers
none, leaving either holds demand and composition, and any other change is only recorded; at each the mode is
recorded, and no ballast update and no metering report is issued. The elements count by the last set's reports. -/
def Obligations.ModeNoticeSetsTheBallast : Prop :=
  ∀ (old new : PlantMode) (s : State), s.mainPresent = true →
    RunsTo (.frgModeNotice old new) s fun t =>
      FrgAlone s t ∧ t.frg.mode = new ∧ Issues (.frgModeNotice old new) s t [] ∧
      t.frg = { s.frg with
        mode := t.frg.mode, state := t.frg.state, demand := t.frg.demand, remainder := t.frg.remainder
        lastError := t.frg.lastError, capacity := t.frg.capacity, trimRating := t.frg.trimRating
        steps := t.frg.steps, stepSum := t.frg.stepSum, trimShare := t.frg.trimShare
        shortfallSticky := t.frg.shortfallSticky } ∧
      (new = .tripped →
        t.frg.state = .forcedFull ∧ t.frg.demand = t.frg.capacity ∧ t.frg.remainder = 0 ∧ t.frg.lastError = none ∧
        deliveredPower t.frg = t.frg.capacity) ∧
      (new = .commission →
        t.frg.state = .frozen ∧ t.frg.demand = 0 ∧ t.frg.remainder = 0 ∧ t.frg.lastError = none ∧
        deliveredPower t.frg = 0) ∧
      (new = .tripped ∨ new = .commission → TablesCanonical s → Composed (fun n => s.frg.faults[n]) s t) ∧
      (new ≠ .tripped → new ≠ .commission → old = .tripped ∨ old = .commission →
        t.frg = { s.frg with mode := new, state := .hold } ∧ t.rif = s.rif ∧ t.tbs = s.tbs ∧
        t.issued = flightAfter (.frgModeNotice old new) s []) ∧
      (new ≠ .tripped → new ≠ .commission → old ≠ .tripped → old ≠ .commission →
        t.frg = { s.frg with mode := new } ∧ t.rif = s.rif ∧ t.tbs = s.tbs ∧
        t.issued = flightAfter (.frgModeNotice old new) s [])

/-- FRG's other events: the second report empties the second accumulator, the minute event closes the minute into the
ring of 60, and the clear notices clear their sticky flags; each changes nothing else. -/
def Obligations.RegulatorEventsAreExact : Prop :=
  ∀ s : State, s.mainPresent = true →
    (RunsTo .frgSecondEvent s fun t => t =
      { s with
        issued := flightAfter .frgSecondEvent s
          [.tsuSecondReport
            { sum := s.frg.secondSum, count := s.frg.secondCount, capacity := s.frg.capacity,
              ceilingHits := hitCount s.frg.ceilingHistory }]
        frg := { s.frg with secondSum := 0, secondCount := 0 } }) ∧
    (∀ stamp : Stamp, RunsTo (.frgMinuteEvent stamp) s fun t =>
      t = { s with
        issued := flightAfter (.frgMinuteEvent stamp) s []
        frg := { s.frg with minute := MinuteAcc.empty, summary := t.frg.summary } } ∧
      t.frg.summary.length = min (s.frg.summary.length + 1) 60 ∧
      (∀ i, i + 1 < 60 → t.frg.summary[i + 1]? = s.frg.summary[i]?) ∧
      ∃ e, t.frg.summary[0]? = some e ∧ e.stamp = (if stamp.valid = true then some stamp else none) ∧
        e.fMin = s.frg.minute.fMin ∧ e.fMax = s.frg.minute.fMax ∧ e.count = s.frg.minute.count ∧
        e.floorHits = s.frg.minute.floorHits ∧ e.ceilingHits = s.frg.minute.ceilingHits ∧
        e.average =
          (if s.frg.minute.count = 0 then 0 else (2 * s.frg.minute.sum + s.frg.minute.count) / (2 * s.frg.minute.count))) ∧
    (RunsTo (.frgClearNotice .regSaturated) s fun t => t =
      { s with
        issued := flightAfter (.frgClearNotice .regSaturated) s []
        frg := { s.frg with floorSticky := false, ceilingSticky := false } }) ∧
    (RunsTo (.frgClearNotice .compositionShortfall) s fun t => t =
      { s with
        issued := flightAfter (.frgClearNotice .compositionShortfall) s []
        frg := { s.frg with shortfallSticky := false } })

/-! ### The plant -/

/-- START: the TURBINE entry is read in every mode, and START is answered by the mode; in STANDBY it is taken when
tables 1 to 8 are loaded and TURBINE and PROTECTION read GOOD, and then the mode is STARTING with the start timer
running. The model's own choices in it: log 5 (the order of the notices); 32; 49 (the read comes before the mode and
the tests are looked at, and takes no swap). -/
def Obligations.StartIsJudged : Prop :=
  ∀ s : State, s.mainPresent = true →
    let read := activeReads .turbine 1 s
    let base :=
      match read with
      | .good img => withTurbine (turbineEntry img) s.tsu
      | _ => { s.tsu with turbineState := readStatus read }
    let m := s.tsu.mode
    let loaded : Prop := ∀ x, mustBeWritten x = true → (table x s).history = true
    let sound : Prop := readStatus read = .good ∧ entryStatus .protection .active 1 s = .good ∧
      s.tsu.protectionDamage = false
    RunsTo .plantStart s fun t =>
      let stays := fun status : Status =>
        t.tsu = base ∧ t.rif.holding = { s.rif.holding with gateSetpoint := t.rif.holding.gateSetpoint } ∧
        Issues .plantStart s t [plainAnswer status]
      TsuAlone s t ∧
      t.rif.holding.gateSetpoint = (if base.gate < s.tsu.gate then some base.gate else s.rif.holding.gateSetpoint) ∧
      (m = .starting ∨ m = .run → stays .done) ∧ (m = .stopping → stays .busy) ∧
      (m = .tripped ∨ m = .commission → stays .refusedMode) ∧
      (m = .standby → ¬loaded → stays .notLoaded) ∧ (m = .standby → loaded → ¬sound → stays .damaged) ∧
      (m = .standby → loaded → sound →
        t.tsu =
          { base with
            mode := .starting, inBand := 0, overfrequency := 0
            startTimer := .running (s.now + base.turbine.startLimit * 1000 * 1000) } ∧
        t.rif.holding = { holdingIn .starting s.rif.holding with gateSetpoint := t.rif.holding.gateSetpoint } ∧
        Issues .plantStart s t (modeNotices .standby .starting ++ [plainAnswer .done]))

/-- STOP and TRIP by mode: STOP in STARTING or RUN enters STOPPING, TRIP outside COMMISSION and TRIPPED trips, and every
other case is only answered. The model's own choice in it: log 5 (the order of the notices). -/
def Obligations.StopAndTripByMode : Prop :=
  ∀ s : State, s.mainPresent = true →
    (s.tsu.mode = .starting ∨ s.tsu.mode = .run → exec .plantStop s = .next
      { s with
        issued := flightAfter .plantStop s (modeNotices s.tsu.mode .stopping ++ [plainAnswer .done])
        rif := { s.rif with holding := holdingIn .stopping s.rif.holding }
        tsu := { s.tsu with
          mode := .stopping, startTimer := .stopped, inBand := 0, overfrequency := 0, watch := none
          dwell := if s.tsu.gate = 0 then .running (s.now + 30000000) else .stopped } }) ∧
    (s.tsu.mode = .standby ∨ s.tsu.mode = .stopping →
      exec .plantStop s = .next (answeredOnly .plantStop .done s)) ∧
    (s.tsu.mode = .tripped ∨ s.tsu.mode = .commission →
      exec .plantStop s = .next (answeredOnly .plantStop .refusedMode s)) ∧
    (s.tsu.mode ≠ .tripped → s.tsu.mode ≠ .commission → exec .plantTrip s = .next
      { s with
        issued := flightAfter .plantTrip s
          (.latchNotice .trip :: modeNotices s.tsu.mode .tripped ++ [plainAnswer .done])
        rif := { s.rif with holding := { holdingIn .tripped s.rif.holding with gateSetpoint := some 0 } }
        tsu := trippedFrom .manual s s.tsu }) ∧
    (s.tsu.mode = .tripped → exec .plantTrip s = .next (answeredOnly .plantTrip .done s)) ∧
    (s.tsu.mode = .commission → exec .plantTrip s = .next (answeredOnly .plantTrip .refusedMode s))

/-- RESTART, ENTER-COMMISSION and LEAVE-COMMISSION by mode and by their tests of the runner at rest. The model's own
choices in it: log 5 (the order of the notices), 21. -/
def Obligations.RestartAndCommission : Prop :=
  ∀ s : State, s.mainPresent = true →
    let x := s.miu.shaft
    let slow : Prop := ∃ p v, s.tsu.protection = some p ∧ x.speed = some v ∧ v < p.restartRpm
    let gone : Prop := x.state = .never ∨ x.state = .stale
    let shut : Prop := ∃ g, gatePosition s = some g ∧ g < 10
    let restart : Prop := (x.state = .fresh ∧ slow) ∨ (s.tsu.protection = none ∧ gone ∧ shut)
    let atRest : Prop := ((x.state = .fresh ∨ x.state = .held) ∧ slow) ∨ (gone ∧ shut)
    (s.tsu.mode = .tripped → restart → exec .plantRestart s = .next
      { s with
        issued := flightAfter .plantRestart s (modeNotices .tripped .standby ++ [plainAnswer .done])
        rif := { s.rif with holding := holdingIn .standby s.rif.holding }
        tsu := { s.tsu with mode := .standby, tripLatch := false, overspeed := 0 } }) ∧
    (s.tsu.mode = .tripped → ¬restart → exec .plantRestart s = .next (answeredOnly .plantRestart .busy s)) ∧
    (s.tsu.mode = .standby → exec .plantRestart s = .next (answeredOnly .plantRestart .done s) ∧
      exec .plantLeaveCommission s = .next (answeredOnly .plantLeaveCommission .done s)) ∧
    (s.tsu.mode ≠ .tripped → s.tsu.mode ≠ .standby →
      exec .plantRestart s = .next (answeredOnly .plantRestart .refusedMode s)) ∧
    (s.tsu.mode = .standby → atRest → exec .plantEnterCommission s = .next
      { s with
        issued := flightAfter .plantEnterCommission s (modeNotices .standby .commission ++ [plainAnswer .done])
        rif := { s.rif with holding := holdingIn .commission s.rif.holding }
        tsu := { s.tsu with mode := .commission } }) ∧
    (s.tsu.mode = .standby → ¬atRest →
      exec .plantEnterCommission s = .next (answeredOnly .plantEnterCommission .busy s)) ∧
    (s.tsu.mode = .commission →
      exec .plantEnterCommission s = .next (answeredOnly .plantEnterCommission .done s) ∧
      exec .plantLeaveCommission s = .next
        { s with
          issued := flightAfter .plantLeaveCommission s (modeNotices .commission .standby ++ [plainAnswer .done])
          rif := { s.rif with holding := holdingIn .standby s.rif.holding }
          tsu := { s.tsu with mode := .standby } }) ∧
    (s.tsu.mode ≠ .standby → s.tsu.mode ≠ .commission →
      exec .plantEnterCommission s = .next (answeredOnly .plantEnterCommission .refusedMode s) ∧
      exec .plantLeaveCommission s = .next (answeredOnly .plantLeaveCommission .refusedMode s))

/-- A second event takes the TURBINE swap and reads the entry, which brings the values in force and the share band while
its source is TABLE; it ramps the gate up in STARTING and down in STOPPING, and in STOPPING enters STANDBY when the runner
and the gate are at rest. The rest of TSU's record stands. The model's own choices in it: log 5 (the order of the
notices), 21, 39, 58 (a start opening raised in STARTING). -/
def Obligations.SecondEventRampsTheGate : Prop :=
  ∀ s : State, s.mainPresent = true →
    let c := Instr.tsuSecondEvent
    let x := table .turbine s
    let u :=
      match ownerReads .turbine 1 s with
      | .good img => withTurbine (turbineEntry img) s.tsu
      | read => { s.tsu with turbineState := readStatus read }
    let v := u.turbine
    let opening := if u.turbineState = .good then v.openRamp else 0
    let shaft := s.miu.shaft
    let still : Prop := shaft.state = .never ∨ shaft.state = .stale ∨
      ∃ p r, s.tsu.protection = some p ∧ shaft.speed = some r ∧ r < p.restartRpm
    let shut : Prop := (∃ y, gatePosition s = some y ∧ y ≤ 10) ∨ (gatePosition s = none ∧ s.tsu.dwell = .expired)
    let complete : Prop := u.gate - v.closeRamp = 0 ∧ still ∧ shut
    RunsTo c s fun t =>
      let modeStands : Prop := t.tsu.mode = s.tsu.mode ∧ t.rif.holding.plantStatus = s.rif.holding.plantStatus ∧
        t.rif.holding.tripRepeat = s.rif.holding.tripRepeat ∧ Issues c s t []
      TsuAlone s t ∧ (table .turbine t).pending = false ∧
      (table .turbine t).active = (if x.pending = true then otherBank x.active else x.active) ∧
      t.tsu = { u with mode := t.tsu.mode, gate := t.tsu.gate, dwell := t.tsu.dwell } ∧
      (s.rif.holding.gateSetpoint = some s.tsu.gate → t.rif.holding.gateSetpoint = some t.tsu.gate) ∧
      (s.tsu.mode = .starting → modeStands ∧ t.tsu.dwell = s.tsu.dwell ∧
        t.tsu.gate =
          if s.tsu.pond = false ∧ u.gate < v.startOpening then min (u.gate + opening) v.startOpening else u.gate) ∧
      (s.tsu.mode = .stopping →
        t.tsu.gate = u.gate - v.closeRamp ∧ t.rif.holding.gateSetpoint = some t.tsu.gate ∧
        (complete → t.tsu.mode = .standby ∧ t.tsu.dwell = .stopped ∧
          t.rif.holding.plantStatus = some 1 ∧ t.rif.holding.tripRepeat = some 0 ∧
          Issues c s t (modeNotices .stopping .standby)) ∧
        (¬complete → modeStands ∧ t.tsu.dwell =
          if t.tsu.gate = 0 ∧ s.tsu.dwell = .stopped then .running (s.now + 30000000) else s.tsu.dwell)) ∧
      (s.tsu.mode ≠ .starting → s.tsu.mode ≠ .stopping →
        modeStands ∧ t.tsu.gate = u.gate ∧ t.tsu.dwell = s.tsu.dwell)

/-- The start timer brings STARTING to STOPPING with START-FAILED, and the dwell timer is marked expired. The model's
own choices in it: log 2; 5 (the order of the notices). -/
def Obligations.PlantTimersExpire : Prop :=
  ∀ (s : State) (d : Nat), s.mainPresent = true →
    let u := advanceTo d s
    (s.tsu.startTimer = .running d → s.tsu.mode = .starting → exec .startTimerExpiry s = .next
      { u with
        issued := s.issued ++ (.latchNotice .startFailed :: modeNotices .starting .stopping)
        rif := { s.rif with holding := holdingIn .stopping s.rif.holding }
        tsu := { s.tsu with
          mode := .stopping, startTimer := .stopped, inBand := 0, overfrequency := 0, watch := none
          dwell := if s.tsu.gate = 0 then .running (u.now + 30000000) else .stopped } }) ∧
    (s.tsu.startTimer = .running d → s.tsu.mode ≠ .starting → exec .startTimerExpiry s = .next
      { u with tsu := { s.tsu with startTimer := .stopped } }) ∧
    (s.tsu.dwell = .running d → exec .dwellTimerExpiry s = .next { u with tsu := { s.tsu with dwell := .expired } })

/-- TSU at a sample set: the PROTECTION read with the trip of an entry first found DAMAGED, pond keeping, over-frequency
with its trip at the fifth set, the in-band count with the entry to RUN, and the speed-unknown watch in every mode with
its trip at the fiftieth round. An EMPTY or DAMAGED entry leaves the values of the last GOOD read in force. The model's
own choices in it: log 20. -/
def Obligations.SampleSetsGuardThePlant : Prop :=
  ∀ (set : SampleSet) (s : State), s.mainPresent = true →
    let read := ownerReads .protection 1 s
    let values := match read with | .good img => some (protectionEntry img) | _ => s.tsu.protection
    let m := s.tsu.mode
    let trips : Prop := m ≠ .tripped ∧ m ≠ .commission
    let damaged : Prop := read = .damaged ∧ s.tsu.protectionDamage = false ∧ trips
    let freq := (setFrequency set).2
    let level := (setView set .forebayLevel 0).current
    let line := isCurrent (setAlternator set).state
    let shaft := isCurrent set.shaft.state
    let compared : Prop := m = .starting ∨ m = .run
    let above : Prop := compared ∧ ∃ p f, values = some p ∧ freq = some f ∧ p.fTrip ≤ f
    let below : Prop := compared ∧ ∃ p f, values = some p ∧ freq = some f ∧ f < p.fTrip
    let aboveTrip : Prop := above ∧ 4 ≤ s.tsu.overfrequency
    let near : Prop := ∃ f, freq = some f ∧ f ≤ s.tsu.fSetView + s.tsu.turbine.inBandWidth ∧
      s.tsu.fSetView ≤ f + s.tsu.turbine.inBandWidth
    let enters : Prop := m = .starting ∧ near ∧ s.tsu.turbine.nInBand ≤ s.tsu.inBand + 1
    let spent : Prop := line = false ∧ ∃ c, s.tsu.watch = some c ∧ 50 ≤ c + 1 ∧ trips
    RunsTo (.tsuSampleSet set) s fun t =>
      TsuAlone s t ∧ t.tsu.protection = values ∧ (table .protection t).pending = false ∧
      t.tsu.protectionDamage =
        (match read with | .good _ => false | .damaged => true | .empty => s.tsu.protectionDamage) ∧
      (level = none → t.tsu.pond = s.tsu.pond) ∧
      (∀ v, level = some v → s.tsu.pond = true →
        t.tsu.pond = decide (v < s.tsu.turbine.lowMark + s.tsu.turbine.hysteresis)) ∧
      (∀ v, level = some v → s.tsu.pond = false → t.tsu.pond = decide (v < s.tsu.turbine.lowMark) ∧
        (v < s.tsu.turbine.lowMark → .latchNotice .forebayLow ∈ t.issued)) ∧
      (damaged → TripTaken .protectionDamaged s t) ∧
      (¬damaged → aboveTrip → TripTaken .overfrequency s t) ∧
      (¬damaged → ¬aboveTrip → enters → ∀ e ∈ modeNotices .starting .run, e ∈ t.issued) ∧
      (¬damaged → ¬aboveTrip → spent → ∀ k, (enters → k = .run) → (¬enters → k = m) →
        TripTaken .speedUnknown { s with tsu := { s.tsu with mode := k } } t) ∧
      (¬damaged → ¬aboveTrip → ¬spent →
        t.tsu = { s.tsu with
          protection := values, protectionDamage := t.tsu.protectionDamage, pond := t.tsu.pond
          overfrequency := t.tsu.overfrequency, mode := t.tsu.mode, inBand := t.tsu.inBand
          startTimer := t.tsu.startTimer, watch := t.tsu.watch } ∧
        (above → t.tsu.overfrequency = s.tsu.overfrequency + 1) ∧ (below → t.tsu.overfrequency = 0) ∧
        (¬above → ¬below → t.tsu.overfrequency = s.tsu.overfrequency) ∧
        (enters → t.tsu.mode = .run ∧ t.tsu.inBand = 0 ∧ t.tsu.startTimer = .stopped ∧
          t.rif.holding.plantStatus = some 3) ∧
        (¬enters → t.tsu.mode = m ∧ t.tsu.startTimer = s.tsu.startTimer ∧ t.rif.holding = s.rif.holding ∧
          (m = .starting → near → t.tsu.inBand = s.tsu.inBand + 1) ∧ (m = .starting → ¬near → t.tsu.inBand = 0) ∧
          (m ≠ .starting → t.tsu.inBand = s.tsu.inBand)) ∧
        (s.tsu.watch = none → t.tsu.mode = .run → shaft = false →
          t.tsu.watch = some 0 ∧ .latchNotice .shaftSignalLost ∈ t.issued) ∧
        (s.tsu.watch = none → t.tsu.mode ≠ .run ∨ shaft = true → t.tsu.watch = none) ∧
        ∀ c, s.tsu.watch = some c → t.tsu.watch = some (if line = true then 0 else c + 1))

/-- A capture: the alarm and the overspeed count follow its speed by the values in force, the watch is disarmed, and a
count of 3 trips the plant in the modes that trip; a PROTECTION entry found DAMAGED for the first time trips it too, and
one that is EMPTY or DAMAGED leaves the values of the last GOOD read in force. The model's own choices in it: log 5 (the
order of the notices), 41. -/
def Obligations.CapturesGuardTheSpeed : Prop :=
  ∀ (c : Capture) (s : State), s.mainPresent = true →
    let read := ownerReads .protection 1 s
    let values := match read with | .good img => some (protectionEntry img) | _ => s.tsu.protection
    let trips : Prop := s.tsu.mode ≠ .tripped ∧ s.tsu.mode ≠ .commission
    let damaged : Prop := read = .damaged ∧ s.tsu.protectionDamage = false ∧ trips
    let base : Tsu := { s.tsu with
      protection := values, watch := none
      protectionDamage := match read with | .good _ => false | .damaged => true | .empty => s.tsu.protectionDamage }
    RunsTo (.tsuCapture c) s fun t =>
      TsuAlone s t ∧ (table .protection t).pending = false ∧
      (∀ p, values = some p → p.alarmRpm ≤ c.speed → s.tsu.alarmArmed = true →
        .latchNotice .overspeedAlarm ∈ t.issued) ∧
      (¬damaged → values = none →
        t.tsu = base ∧ t.rif.holding = s.rif.holding ∧ Issues (.tsuCapture c) s t []) ∧
      (¬damaged → ∀ p, values = some p →
        let n := if p.tripRpm ≤ c.speed then min (s.tsu.overspeed + 1) 3 else 0
        let u : Tsu := { base with overspeed := n, alarmArmed := decide (c.speed < p.alarmRpm) }
        (n = 3 → trips →
          t.tsu = trippedFrom .overspeed s u ∧ .latchNotice .trip ∈ t.issued ∧
          t.rif.holding = { holdingIn .tripped s.rif.holding with gateSetpoint := some 0 } ∧
          Issues (.tsuCapture c) s t (modeNotices s.tsu.mode .tripped)) ∧
        (n ≠ 3 ∨ ¬trips → t.tsu = u ∧ t.rif.holding = s.rif.holding ∧ Issues (.tsuCapture c) s t [])) ∧
      (damaged →
        TripTaken .protectionDamaged s t ∧ t.tsu.protection = s.tsu.protection ∧ t.tsu.protectionDamage = true ∧
        (s.tsu.protection = none → t.tsu.alarmArmed = s.tsu.alarmArmed ∧ t.tsu.overspeed = 0) ∧
        ∀ p, s.tsu.protection = some p →
          t.tsu.alarmArmed = decide (c.speed < p.alarmRpm) ∧
          t.tsu.overspeed = if p.tripRpm ≤ c.speed then 1 else 0)

/-- The speed-unknown watch: a shaft-loss notice arms it in STARTING and RUN, and each closure without an accepted
round in UP counts on it, to the trip at 50. The model's own choices in it: log 5 (the order of the notices), and that
the notice sets the count to 0 and latches SHAFT-SIGNAL-LOST where the watch was armed already (log 20). -/
def Obligations.RoundsCountOnTheWatch : Prop :=
  ∀ s : State, s.mainPresent = true →
    (s.tsu.mode = .starting ∨ s.tsu.mode = .run → exec .tsuShaftLossNotice s = .next
      { s with
        issued := flightAfter .tsuShaftLossNotice s [.latchNotice .shaftSignalLost]
        tsu := { s.tsu with overspeed := 0, alarmArmed := true, watch := some 0 } }) ∧
    (s.tsu.mode ≠ .starting → s.tsu.mode ≠ .run → exec .tsuShaftLossNotice s = .next
      { s with
        issued := flightAfter .tsuShaftLossNotice s [], tsu := { s.tsu with overspeed := 0, alarmArmed := true } }) ∧
    ∀ c : Closure,
      let bad : Prop := c = .rejected ∨ c = .lost ∨ ∃ slots round period, c = .accepted slots .down round period
      (¬bad ∨ s.tsu.watch = none →
        exec (.tsuRoundClosure c) s = .next { s with issued := flightAfter (.tsuRoundClosure c) s [] }) ∧
      (∀ n, bad → s.tsu.watch = some n → n + 1 < 50 → exec (.tsuRoundClosure c) s = .next
        { s with
          issued := flightAfter (.tsuRoundClosure c) s [], tsu := { s.tsu with watch := some (n + 1) } }) ∧
      (∀ n, bad → s.tsu.watch = some n → 50 ≤ n + 1 → s.tsu.mode ≠ .tripped → s.tsu.mode ≠ .commission →
        exec (.tsuRoundClosure c) s = .next
          { s with
            issued := flightAfter (.tsuRoundClosure c) s (.latchNotice .trip :: modeNotices s.tsu.mode .tripped)
            rif := { s.rif with holding := { holdingIn .tripped s.rif.holding with gateSetpoint := some 0 } }
            tsu := trippedFrom .speedUnknown s s.tsu })

/-- The gate trim of a second report, by the first case of the table; SHARE-BAND replaces a band in order; and the
ballast update gives TSU and SDU f_set alone. The model's own choices in it: log 39. -/
def Obligations.GateTrimAndViews : Prop :=
  ∀ s : State, s.mainPresent = true →
    (∀ r : SecondReport,
      let v := s.tsu.turbine
      let close := if s.tsu.turbineState = .good then v.closeStep else 0
      let opening := if s.tsu.turbineState = .good then v.openStep else 0
      let share := r.sum * 1000 / (r.count * r.capacity)
      let g :=
        if v.kCeiling ≤ r.ceilingHits then s.tsu.gate - 2 * close
        else if s.tsu.pond = true then s.tsu.gate - close
        else if r.count = 0 ∨ r.capacity = 0 then s.tsu.gate
        else if s.tsu.share.high < share then s.tsu.gate - close
        else if share < s.tsu.share.low then max s.tsu.gate (min (s.tsu.gate + opening) v.gateMax)
        else s.tsu.gate
      (s.tsu.mode = .run → exec (.tsuSecondReport r) s = .next
        { s with
          issued := flightAfter (.tsuSecondReport r) s []
          tsu := { s.tsu with gate := g }
          rif := { s.rif with holding := { s.rif.holding with gateSetpoint := some g } } }) ∧
      (s.tsu.mode ≠ .run →
        exec (.tsuSecondReport r) s = .next { s with issued := flightAfter (.tsuSecondReport r) s [] })) ∧
    (∀ low high : Nat,
      (low < high → high ≤ 1000 → exec (.shareBand low high) s = .next
        { s with
          issued := flightAfter (.shareBand low high) s []
          tsu := { s.tsu with share := { low := low, high := high, source := .schedule } } }) ∧
      (high ≤ low ∨ 1000 < high →
        exec (.shareBand low high) s = .next { s with issued := flightAfter (.shareBand low high) s [] })) ∧
    ∀ u : BallastUpdate,
      exec (.tsuBallastUpdate u) s = .next
        { s with issued := flightAfter (.tsuBallastUpdate u) s [], tsu := { s.tsu with fSetView := u.fSet } } ∧
      exec (.sduBallastUpdate u) s = .next
        { s with issued := flightAfter (.sduBallastUpdate u) s [], sdu := { s.sdu with fSetView := u.fSet } }

/-! ### The supply balance -/

/-- SBU at a ballast update that does not shed: outside RUN only the view and the BALANCE values follow; in RUN the
head of the queue is granted exactly when it fits the headroom and the other conditions hold, and with a BALANCE entry
that is not GOOD nothing is granted and no restore begins. -/
def Obligations.UpdatesGrantTheHead : Prop :=
  ∀ (u : BallastUpdate) (s : State), s.mainPresent = true →
    let read := ownerReads .balance 1 s
    let view : UpdateView := { demand := u.demand, capacity := u.capacity, state := u.state, freq := u.freq,
                               fSet := u.fSet, floorHits := u.floorHits }
    let deficit := fun (kShed depth : Nat) => kShed ≤ u.floorHits ∧ (∃ f, u.freq = some f ∧ f + depth < u.fSet) ∧
      s.sbu.shedPause = .stopped
    let grantsNothing := fun t : State => ∀ h, grantedNotice h ∈ t.issued → grantedNotice h ∈ s.issued
    (s.tsu.mode ≠ .run → RunsTo (.sbuBallastUpdate u) s fun t =>
      SbuAlone s t ∧ t.fcu = s.fcu ∧ t.rif = s.rif ∧ Issues (.sbuBallastUpdate u) s t [] ∧
      t.sbu = { s.sbu with view := view, balance := t.sbu.balance, degraded := t.sbu.degraded } ∧
      (∀ img, read = .good img → t.sbu.balance = balanceEntry img ∧ t.sbu.degraded = false) ∧
      (readStatus read ≠ .good → t.sbu.balance = s.sbu.balance ∧ t.sbu.degraded = true)) ∧
    (s.tsu.mode = .run → readStatus read ≠ .good → RunsTo (.sbuBallastUpdate u) s fun t =>
      SbuAlone s t ∧ t.sbu.view = view ∧ t.sbu.balance = s.sbu.balance ∧ t.sbu.degraded = true ∧ grantsNothing t ∧
      (∀ n, t.sbu.restoring = some n → s.sbu.restoring = some n) ∧
      (¬deficit 4 1000 →
        t.sbu = { s.sbu with view := view, degraded := true } ∧ t.fcu = s.fcu ∧ t.rif = s.rif ∧
        Issues (.sbuBallastUpdate u) s t [])) ∧
    (∀ img, s.tsu.mode = .run → read = .good img → s.sbu.queue = [] →
      let v := balanceEntry img
      ¬deficit v.kShed v.shedDepth → RunsTo (.sbuBallastUpdate u) s fun t =>
        SbuAlone s t ∧ t.sbu.view = view ∧ t.sbu.balance = v ∧ t.sbu.degraded = false ∧
        t.sbu.granted = s.sbu.granted ∧ grantsNothing t) ∧
    (∀ (img : Image) (c : Claim) (rest : List Claim), s.tsu.mode = .run → read = .good img →
      s.sbu.queue = c :: rest →
      let v := balanceEntry img
      let fits : Prop := c.amount + (s.sbu.granted.map (·.amount)).sum + v.margin ≤ u.demand ∧
        s.sbu.shedPause = .stopped ∧ (∃ f, u.freq = some f ∧ u.fSet ≤ f + v.grantBand) ∧ u.state = .tracking
      ¬deficit v.kShed v.shedDepth → RunsTo (.sbuBallastUpdate u) s fun t =>
        SbuAlone s t ∧ t.sbu.view = view ∧ t.sbu.balance = v ∧ t.sbu.degraded = false ∧
        (fits →
          t.sbu.granted =
            s.sbu.granted ++ [{ c with state := .granted (.running (s.now + v.holdLimit * 1000 * 1000)) }] ∧
          grantedNotice c.holder ∈ t.issued ∧ (s.sbu.shedList = [] → t.sbu.queue = rest ∧ t.fcu = s.fcu)) ∧
        (¬fits → t.sbu.granted = s.sbu.granted ∧ grantsNothing t ∧
          (s.sbu.shedList = [] → t.sbu = { s.sbu with
            view := view, balance := v, degraded := false } ∧ t.fcu = s.fcu)))

/-- A deficit sheds one load: the restore in progress if there is one, else the candidate of highest class, the saw
before a feeder of its class and the highest feeder number. With no candidate it is reported once: a deficit already
reported latches nothing, and what stands in the shed list stays there unless the same update begins a restore, which
ends the report. -/
def Obligations.DeficitShedsOneLoad : Prop :=
  ∀ (u : BallastUpdate) (f : Nat) (s : State), s.mainPresent = true → s.tsu.mode = .run → s.sbu.shedPause = .stopped →
    u.freq = some f →
    let read := ownerReads .balance 1 s
    let kShed := match read with | .good img => (balanceEntry img).kShed | _ => 4
    let depth := match read with | .good img => (balanceEntry img).shedDepth | _ => 1000
    let pause := match read with | .good img => (balanceEntry img).shedPause | _ => 2000
    let saw : Prop := s.sdu.state = .star ∨ s.sdu.state = .delta ∨ s.sdu.state = .run
    kShed ≤ u.floorHits → f + depth < u.fSet →
    RunsTo (.sbuBallastUpdate u) s fun t =>
      let shedMade : Prop := t.sbu.shedPause = .running (s.now + pause * 1000) ∧ t.sbu.unresolved = false ∧
        .latchNotice .shed ∈ t.issued ∧ ∀ h, grantedNotice h ∈ t.issued → grantedNotice h ∈ s.issued
      SbuAlone s t ∧
      (∀ n, s.sbu.restoring = some n →
        shedMade ∧ BecomesShed n .deficit (feeder n s) s t ∧ t.sbu.restoring = none ∧
        t.sbu.restoreGap = s.sbu.restoreGap ∧ ClaimLeaves (.feeder n) s t) ∧
      (s.sbu.restoring = none →
        (∀ n, (feeder n s).state = .on →
          (∀ m, (feeder m s).state = .on →
            (feeder m s).cls < (feeder n s).cls ∨ ((feeder m s).cls = (feeder n s).cls ∧ m ≤ n)) →
          (saw → s.sdu.cls < (feeder n s).cls) →
          shedMade ∧ BecomesShed n .deficit { feeder n s with preShed := lastPower n s } s t ∧
          t.sbu.granted = s.sbu.granted ∧ t.sbu.queue = s.sbu.queue) ∧
        (saw → (∀ m, (feeder m s).state = .on → (feeder m s).cls ≤ s.sdu.cls) →
          shedMade ∧ .shedOrder ∈ t.issued ∧ ClaimLeaves .saw s t ∧ t.fcu = s.fcu ∧ t.sbu.shedList = s.sbu.shedList) ∧
        (¬saw → (∀ m, (feeder m s).state ≠ .on) →
          let reported : Instr := .latchNotice .deficitUnresolved
          t.sbu.shedPause = .stopped ∧
          t.issued.count (.latchNotice .shed) = s.issued.count (.latchNotice .shed) ∧
          t.issued.count reported = s.issued.count reported + (if s.sbu.unresolved = true then 0 else 1) ∧
          (t.sbu.restoring = none →
            t.sbu.unresolved = true ∧ t.fcu = s.fcu ∧ t.rif = s.rif ∧ t.sbu.shedList = s.sbu.shedList) ∧
          (s.sbu.shedList = [] → t.sbu.restoring = none) ∧
          ∀ n, t.sbu.restoring = some n →
            t.sbu.unresolved = false ∧ ∃ e rest, s.sbu.shedList = e :: rest ∧ e.feeder = n))

/-- A restore begins with the first entry of the shed list: it leaves the list, its feeder is RESTORING, and its claim
joins the queue with the amount its tier gives. No restore begins while another is in progress, while BALANCE is not
GOOD, while the shed pause or the restore gap runs, or while the voltage view is not current, lies outside the band of
PROTECTION or has no band. -/
def Obligations.RestoresBeginWithTheFirstEntry : Prop :=
  ∀ (u : BallastUpdate) (s : State), s.mainPresent = true → s.tsu.mode = .run →
    let read := ownerReads .balance 1 s
    let kShed := match read with | .good img => (balanceEntry img).kShed | _ => 4
    let depth := match read with | .good img => (balanceEntry img).shedDepth | _ => 1000
    let deficit : Prop := kShed ≤ u.floorHits ∧ (∃ f, u.freq = some f ∧ f + depth < u.fSet) ∧
      s.sbu.shedPause = .stopped
    let saw : Prop := s.sdu.state = .star ∨ s.sdu.state = .delta ∨ s.sdu.state = .run
    let nothingToShed : Prop := s.sbu.restoring = none ∧ ¬saw ∧ ∀ m, (feeder m s).state ≠ .on
    let inBand : Prop := ∃ p v, s.tsu.protection = some p ∧ s.sbu.voltage = some v ∧
      (s.sbu.voltageSt = .fresh ∨ s.sbu.voltageSt = .held) ∧ p.vLow ≤ v ∧ v ≤ p.vHigh
    let may : Prop := readStatus read = .good ∧ s.sbu.restoring = none ∧ s.sbu.shedPause = .stopped ∧
      s.sbu.restoreGap = .stopped ∧ inBand
    (¬deficit ∨ nothingToShed → ¬may ∨ s.sbu.shedList = [] → RunsTo (.sbuBallastUpdate u) s fun t =>
      SbuAlone s t ∧ t.fcu = s.fcu ∧ t.rif = s.rif ∧ t.sbu.restoring = s.sbu.restoring ∧
      t.sbu.shedList = s.sbu.shedList ∧ t.sbu.restoreGap = s.sbu.restoreGap ∧
      t.sbu.shedPause = s.sbu.shedPause) ∧
    ∀ (img : Image) (e : ShedEntry) (rest : List ShedEntry), read = .good img → s.sbu.shedList = e :: rest →
      let r := feeder e.feeder s
      let base := max r.preShed ((r.values.map (·.minClaim)).getD 0)
      let amount :=
        match s.eau.tiers[e.feeder] with
        | .normal => base
        | .reduced => min base (((r.values.map (·.reducedLimit)).getD 0) * s.sbu.voltage.getD 0 / 1000)
      let limit := ((balanceEntry img).waitLimits.toList.getD r.cls 0) * 1000
      ¬deficit ∨ nothingToShed → may → RunsTo (.sbuBallastUpdate u) s fun t =>
        SbuAlone s t ∧ t.sbu.restoring = some e.feeder ∧ t.sbu.unresolved = false ∧
        t.sbu.shedPause = .stopped ∧ t.sbu.restoreGap = .stopped ∧
        FeederBecomes e.feeder { r with state := .restoring, underRestore := true } s t ∧
        (∀ d ∈ t.sbu.shedList, d.feeder ≠ e.feeder) ∧
        (∀ d ∈ s.sbu.shedList, d.feeder ≠ e.feeder → ∃ d' ∈ t.sbu.shedList, d' = { d with order := d'.order }) ∧
        ∃ c ∈ t.sbu.queue, c.holder = .feeder e.feeder ∧ c.cls = r.cls ∧ c.amount = min amount 65535 ∧
          c.state = .queued s.now limit ∧ c.order = (claims s).length + 1

/-- R84: SBU copies the LINE-VOLTAGE quantity of every sample set, value and state, and takes nothing else from it. -/
def Obligations.VoltageViewFollowsTheSet : Prop :=
  ∀ (set : SampleSet) (s : State), s.mainPresent = true →
    exec (.sbuSampleSet set) s = .next
      { s with
        issued := flightAfter (.sbuSampleSet set) s []
        sbu := { s.sbu with
          voltage := ((setRecord set .lineVoltage 0).bind (·.value))
          voltageSt := ((setRecord set .lineVoltage 0).map recordState).getD .never } }

/-- The saw's claim request is judged by the saw's state, the plant mode and the list; a QUEUED record ends at its
wait limit with NO-HEADROOM, and a GRANTED one at its hold limit without a word. The model's own choices in it: log 2;
5 (NO-HEADROOM is issued before the latch notice); 31 (the wait limit of a restore sheds the feeder in every plant
mode); 42 (the record takes the request's class); 57 (where the feeder is no longer RESTORING, the record alone goes).
-/
def Obligations.ClaimsComeAndGo : Prop :=
  ∀ s : State, s.mainPresent = true →
    (∀ amount cls : Nat,
      (s.sdu.state ≠ .queued → exec (.sawClaimRequest amount cls) s = .next
        { s with issued := flightAfter (.sawClaimRequest amount cls) s [] }) ∧
      (s.sdu.state = .queued → s.tsu.mode ≠ .run → exec (.sawClaimRequest amount cls) s = .next
        { s with issued := flightAfter (.sawClaimRequest amount cls) s [.sawClaimAnswer .notRun] }) ∧
      (s.sdu.state = .queued → s.tsu.mode = .run → ¬NoClaim .saw s → exec (.sawClaimRequest amount cls) s = .next
        { s with issued := flightAfter (.sawClaimRequest amount cls) s [.sawClaimAnswer .duplicate] }) ∧
      (s.sdu.state = .queued → s.tsu.mode = .run → NoClaim .saw s → ClaimListInForm s →
        RunsTo (.sawClaimRequest amount cls) s fun t =>
          t = { s with
            sbu := { s.sbu with queue := t.sbu.queue }
            issued := flightAfter (.sawClaimRequest amount cls) s [.sawClaimAnswer .accepted] } ∧
          ∃ front back, s.sbu.queue = front ++ back ∧ (∀ d ∈ front, d.cls ≤ cls) ∧
            (∀ d, back.head? = some d → cls < d.cls) ∧
            t.sbu.queue = front ++
              { holder := .saw, cls := cls, amount := amount, order := (claims s).length + 1
                state := .queued s.now ((s.sbu.balance.waitLimits.toList.getD cls 0) * 1000) } :: back)) ∧
    (∀ (h : Holder) (c : Claim) (since limit : Nat), claimOf h s = some c → c.state = .queued since limit →
      RunsTo (.waitTimerExpiry h) s fun t =>
        FcuAlone (advanceTo (since + limit * 1000) s) t ∧ t.now = max s.now (since + limit * 1000) ∧
        ClaimLeaves h s t ∧ t.sdu = s.sdu ∧
        (h = .saw → t.fcu = s.fcu ∧ t.issued = s.issued ++ [.noHeadroom, .latchNotice .sawNoHeadroom]) ∧
        ∀ n, h = .feeder n → (feeder n s).state = .restoring →
          BecomesShed n .request (feeder n s) s t ∧ RestoreEnds n t.now s t ∧ t.issued = s.issued) ∧
    (∀ (h : Holder) (c : Claim) (since limit : Nat), claimOf h s = some c → c.state = .queued since limit →
      ∀ n, h = .feeder n → (feeder n s).state ≠ .restoring → RunsTo (.waitTimerExpiry h) s fun t =>
        t = { advanceTo (since + limit * 1000) s with
          sbu := { s.sbu with granted := t.sbu.granted, queue := t.sbu.queue } } ∧
        ClaimLeaves h s t) ∧
    (∀ (h : Holder) (c : Claim) (d : Nat), claimOf h s = some c → c.state = .granted (.running d) →
      RunsTo (.holdTimerExpiry h) s fun t =>
        t = { advanceTo d s with
          sbu := { s.sbu with granted := t.sbu.granted, queue := t.sbu.queue } } ∧
        ClaimLeaves h s t)

/-- Class notices give the holder's record or shed list entry its class and its place in the order, the others
standing, with a new wait limit from the original queuing while a record is QUEUED; the shed pause and the restore gap
stop at their expiry; a change out of RUN empties both lists. The model's own choices in it: log 2; 22 (the reason of
a feeder that SBU takes OFF); 31. -/
def Obligations.BalanceNotices : Prop :=
  ∀ s : State, s.mainPresent = true →
    (∀ (h : Holder) (cls : Nat) (c : Claim) (since old : Nat), OneClaimPerHolder s → c ∈ s.sbu.queue → c.holder = h →
      c.state = .queued since old →
      let limit := (s.sbu.balance.waitLimits.toList.getD cls 0) * 1000
      RunsTo (.sbuClassNotice h cls) s fun t =>
        SbuAlone s t ∧
        (s.now < since + limit * 1000 →
          t.sbu.granted = s.sbu.granted ∧ t.sbu.queue.length = s.sbu.queue.length ∧
          { c with cls := cls, state := .queued since limit } ∈ t.sbu.queue ∧
          (∀ d ∈ s.sbu.queue, d.holder ≠ h → d ∈ t.sbu.queue) ∧
          (ClaimListInForm s → t.sbu.queue.Pairwise fun d e => claimBefore d e = true)) ∧
        (since + limit * 1000 ≤ s.now → ClaimLeaves h s t ∧ (h = .saw → .noHeadroom ∈ t.issued))) ∧
    (∀ (h : Holder) (cls : Nat) (c : Claim), OneClaimPerHolder s → c ∈ s.sbu.granted → c.holder = h →
      (∃ hold, c.state = .granted hold) →
      RunsTo (.sbuClassNotice h cls) s fun t =>
        SbuAlone s t ∧ t.fcu = s.fcu ∧ t.sbu.queue = s.sbu.queue ∧
        t.sbu.granted = s.sbu.granted.map fun d => if d.holder = h then { c with cls := cls } else d) ∧
    (∀ (h : Holder) (cls : Nat), NoClaim h s → RunsTo (.sbuClassNotice h cls) s fun t =>
      SbuAlone s t ∧ t.fcu = s.fcu ∧ claims t = claims s) ∧
    (∀ (n : Feeder) (cls : Nat) (e : ShedEntry), NoClaim (.feeder n) s →
      s.sbu.shedList.find? (fun x => x.feeder = n) = some e →
      RunsTo (.sbuClassNotice (.feeder n) cls) s fun t =>
        SbuAlone s t ∧ t.fcu = s.fcu ∧ claims t = claims s ∧ { e with cls := cls } ∈ t.sbu.shedList ∧
        (∀ d ∈ s.sbu.shedList, d.feeder ≠ n → d ∈ t.sbu.shedList) ∧
        (ShedListInForm s → t.sbu.shedList.length = s.sbu.shedList.length ∧
          t.sbu.shedList.Pairwise fun d f => entryBefore d f = true)) ∧
    (∀ d, s.sbu.shedPause = .running d → exec .shedPauseTimerExpiry s = .next
      { advanceTo d s with sbu := { s.sbu with shedPause := .stopped } }) ∧
    (∀ d, s.sbu.restoreGap = .running d → exec .restoreGapTimerExpiry s = .next
      { advanceTo d s with sbu := { s.sbu with restoreGap := .stopped } }) ∧
    ∀ old new : PlantMode,
      (old = .run → new = .stopping ∨ new = .tripped → RunsTo (.sbuModeNotice old new) s fun t =>
        SbuAlone s t ∧ t.issued = flightAfter (.sbuModeNotice old new) s [] ∧
        t.sbu = { s.sbu with
          shedList := [], granted := [], queue := [], restoring := none, shedPause := .stopped, restoreGap := .stopped
          unresolved := false } ∧
        ∀ n : Feeder, feeder n t =
          if (∃ e ∈ s.sbu.shedList, e.feeder = n) ∧ (feeder n s).state = .shed then parked .off .plant (feeder n s)
          else feeder n s) ∧
      (old ≠ .run ∨ (new ≠ .stopping ∧ new ≠ .tripped) → exec (.sbuModeNotice old new) s = .next
        { s with issued := flightAfter (.sbuModeNotice old new) s [] })

/-! ### The saw -/

/-- A management START of the saw is judged by the entry, the state, the mode, the lockout and the permissive; taken,
it queues the saw and asks SBU for its surge. The model's own choice in it: log 5 (the claim request is issued before
the answer). -/
def Obligations.SawStartIsJudged : Prop :=
  ∀ s : State, s.mainPresent = true →
    let read := if s.sdu.state = .stopped then ownerReads .saw 1 s else activeReads .saw 1 s
    let free : Prop := s.tsu.mode = .run ∧ s.sdu.lockout = false ∧ s.sdu.permissive = .closed
    RunsTo .sawStart s fun t =>
      SduAlone s t ∧
      (∀ img, read = .good img →
        let d := { s.sdu with values := some (sawEntry img), entryState := .good }
        ((sawEntry img).present = false → t.sdu = d ∧ Issues .sawStart s t [plainAnswer .absent]) ∧
        ((sawEntry img).present = true → s.sdu.state ≠ .stopped →
          t.sdu = d ∧ Issues .sawStart s t [plainAnswer .busy]) ∧
        ((sawEntry img).present = true → s.sdu.state = .stopped → ¬free →
          t.sdu = d ∧ Issues .sawStart s t [plainAnswer .refusedMode]) ∧
        ((sawEntry img).present = true → s.sdu.state = .stopped → free →
          t.sdu = { d with state := .queued, reason := .none } ∧
          Issues .sawStart s t [.sawClaimRequest (sawEntry img).surge s.sdu.cls, plainAnswer .done])) ∧
      (readStatus read ≠ .good →
        Issues .sawStart s t [plainAnswer (if read = .empty then .absent else .damaged)] ∧
        (s.sdu.state = .stopped ∨ s.sdu.state = .rundown ∨ s.sdu.state = .fault →
          t.sdu = { s.sdu with entryState := readStatus read }) ∧
        (s.sdu.state = .queued → t.sdu.state = .stopped ∧ t.sdu.reason = .plant ∧ ClaimLeaves .saw s t) ∧
        (s.sdu.state = .star ∨ s.sdu.state = .delta ∨ s.sdu.state = .run →
          t.sdu.state = .rundown ∧ t.sdu.reason = .plant ∧ t.sdu.contactor = .off ∧ t.sdu.feed = 0 ∧
          t.rif.holding.feed = some 0 ∧ (s.sdu.state ≠ .run → ClaimLeaves .saw s t)))

/-- STOP brings a saw that is on or waiting down and is always answered DONE; CLEAR leaves FAULT while the permissive
is closed. The confirm watch is left as it stands. -/
def Obligations.SawStopAndClear : Prop :=
  ∀ s : State, s.mainPresent = true →
    (s.sdu.state = .queued → RunsTo .sawStop s fun t =>
      SduAlone s t ∧ Stops .stop s t ∧ ClaimLeaves .saw s t ∧ Issues .sawStop s t [plainAnswer .done]) ∧
    (s.sdu.state = .star ∨ s.sdu.state = .delta ∨ s.sdu.state = .run → RunsTo .sawStop s fun t =>
      SduAlone s t ∧ RunsDown .stop s t ∧ (s.sdu.state ≠ .run → ClaimLeaves .saw s t) ∧
      t.issued = flightAfter .sawStop s [plainAnswer .done]) ∧
    (s.sdu.state = .stopped ∨ s.sdu.state = .rundown ∨ s.sdu.state = .fault →
      exec .sawStop s = .next (answeredOnly .sawStop .done s)) ∧
    (s.sdu.state = .fault → s.sdu.permissive = .closed → RunsTo .sawClear s fun t =>
      SduAlone s t ∧ Stops s.sdu.reason s t ∧ Issues .sawClear s t [plainAnswer .done]) ∧
    (s.sdu.state = .fault → s.sdu.permissive = .opened →
      exec .sawClear s = .next (answeredOnly .sawClear .busy s)) ∧
    (s.sdu.state ≠ .fault → exec .sawClear s = .next (answeredOnly .sawClear .done s))

/-- The star-delta sequence: NOT-RUN stops a waiting saw, GRANTED takes it to STAR, the star timer to DELTA, the delta
settle timer to RUN with its claim released, and the rundown timer to STOPPED; in other states they do not move it.
The model's own choices in it: log 2. -/
def Obligations.StarDeltaSequence : Prop :=
  ∀ (s : State) (x : Nat), s.mainPresent = true →
    let v := s.sdu.values
    let u := advanceTo x s
    (∀ a : ClaimAnswer,
      (a = .notRun → s.sdu.state = .queued → RunsTo (.sawClaimAnswer a) s fun t =>
        SduAlone s t ∧ Stops .plant s t ∧ ClaimLeaves .saw s t ∧ Issues (.sawClaimAnswer a) s t []) ∧
      (a ≠ .notRun ∨ s.sdu.state ≠ .queued →
        exec (.sawClaimAnswer a) s = .next { s with issued := flightAfter (.sawClaimAnswer a) s [] })) ∧
    (s.sdu.state = .queued → RunsTo .sawGranted s fun t =>
      SduAlone s t ∧ t.issued = flightAfter .sawGranted s [] ∧ claims t = claims s ∧
      t.sdu = { withContactor .star s.now s.sdu with
        state := .star, stallTimer := .stopped
        starTimer := .running (s.now + ((v.map (·.starTime)).getD 0) * 1000 * 1000) } ∧
      (s.sdu.contactor ≠ .star → t.rif.holding.sawContactor = some 1)) ∧
    (s.sdu.state ≠ .queued → exec .sawGranted s = .next { s with issued := flightAfter .sawGranted s [] }) ∧
    (s.sdu.starTimer = .running x → s.sdu.state = .star → RunsTo .starTimerExpiry s fun t =>
      SduAlone u t ∧ t.issued = s.issued ∧ claims t = claims s ∧
      t.sdu = { withContactor .delta u.now s.sdu with
        state := .delta, stallTimer := .stopped, starTimer := .stopped
        deltaTimer := .running (u.now + ((v.map (·.deltaSettle)).getD 0) * 1000) } ∧
      (s.sdu.contactor ≠ .delta → t.rif.holding.sawContactor = some 2)) ∧
    (s.sdu.deltaTimer = .running x → s.sdu.state = .delta → RunsTo .deltaSettleTimerExpiry s fun t =>
      SduAlone u t ∧ t.issued = s.issued ∧ ClaimLeaves .saw s t ∧
      t.sdu = { s.sdu with state := .run, deltaTimer := .stopped } ∧ t.rif = s.rif) ∧
    (s.sdu.rundownTimer = .running x → s.sdu.state = .rundown → RunsTo .rundownTimerExpiry s fun t =>
      SduAlone u t ∧ Stops s.sdu.reason { u with sdu := { s.sdu with rundownTimer := .stopped } } t ∧
      claims t = claims s) ∧
    (s.sdu.starTimer = .running x → s.sdu.state ≠ .star → exec .starTimerExpiry s = .next
      { u with sdu := { s.sdu with starTimer := .stopped } }) ∧
    (s.sdu.deltaTimer = .running x → s.sdu.state ≠ .delta → exec .deltaSettleTimerExpiry s = .next
      { u with sdu := { s.sdu with deltaTimer := .stopped } }) ∧
    (s.sdu.rundownTimer = .running x → s.sdu.state ≠ .rundown → exec .rundownTimerExpiry s = .next
      { u with sdu := { s.sdu with rundownTimer := .stopped } })

/-- The confirm watch that expires PENDING and the stall timer of a motor that is on bring the saw to FAULT; a fault
keeps its state and takes the reason NO-CONFIRM. The model's own choices in it: log 2. -/
def Obligations.SawWatchesFault : Prop :=
  ∀ (s : State) (x : Nat), s.mainPresent = true →
    let u := advanceTo x s
    let failed := { u with sdu := { s.sdu with confirmTimer := .stopped, confirm := .failed } }
    (s.sdu.confirmTimer = .running x → s.sdu.confirm = .pending → s.sdu.state ≠ .fault →
      RunsTo .confirmTimerExpiry s fun t => SduAlone u t ∧ FaultsWith .noConfirm failed t) ∧
    (s.sdu.confirmTimer = .running x → s.sdu.confirm = .pending → s.sdu.state = .fault →
      exec .confirmTimerExpiry s = .next
        { u with
          issued := s.issued ++ [.latchNotice .sawFault]
          sdu := { s.sdu with confirmTimer := .stopped, confirm := .failed, reason := .noConfirm } }) ∧
    (s.sdu.confirmTimer = .running x → s.sdu.confirm ≠ .pending → exec .confirmTimerExpiry s = .next
      { u with sdu := { s.sdu with confirmTimer := .stopped } }) ∧
    (s.sdu.stallTimer = .running x → s.sdu.state = .star ∨ s.sdu.state = .delta ∨ s.sdu.state = .run →
      RunsTo .stallTimerExpiry s fun t =>
        SduAlone u t ∧ FaultsWith .stall { u with sdu := { s.sdu with stallTimer := .stopped } } t) ∧
    (s.sdu.stallTimer = .running x → s.sdu.state ≠ .star → s.sdu.state ≠ .delta → s.sdu.state ≠ .run →
      exec .stallTimerExpiry s = .next { u with sdu := { s.sdu with stallTimer := .stopped } })

/-- The permissive and the ring-down announcement at the saw, in every state and with the whole saw record. A change to
open writes OFF and feed 0: STOPPED, RUNDOWN and FAULT stand, QUEUED goes to STOPPED with its claim withdrawn, and STAR, DELTA
and RUN fault; any other event of the input only records the level. A ring-down suspends a running confirm watch timer and
freezes a running stall timer in every state: STAR and DELTA fault, the watch that the fault's OFF starts being suspended; RUN
withdraws the contactor command and writes feed 0 for the ring check; the other states stand. The model's own choice in it:
log 56 (the withdrawal leaves the confirm watch's state, and starts no timer). -/
def Obligations.PermissiveAndRingAtTheSaw : Prop :=
  ∀ s : State, s.mainPresent = true →
    let idle : Prop := s.sdu.state = .stopped ∨ s.sdu.state = .rundown ∨ s.sdu.state = .fault
    let opened := { s with permissivePin := .opened, sdu := { s.sdu with permissive := .opened } }
    let off := { opened with
      sdu := commandedOff s.now opened.sdu
      rif := { s.rif with
        holding := { s.rif.holding with
          feed := some 0
          sawContactor := if s.sdu.contactor = .off then s.rif.holding.sawContactor else some 0 } } }
    let down := { s with issued := flightAfter .sduRingDown s [] }
    let held := { s.sdu with
      confirmTimer := suspendedAt s.now s.sdu.confirmTimer, stallTimer := frozenAt s.now s.sdu.stallTimer }
    let started := (withContactor .off s.now s.sdu).confirmTimer
    (∀ level : Permissive, level = .closed ∨ s.sdu.permissive = .opened →
      exec (.permissiveChange level) s = .next
        { s with permissivePin := level, sdu := { s.sdu with permissive := level } }) ∧
    (s.sdu.permissive = .closed →
      (idle → exec (.permissiveChange .opened) s = .next off) ∧
      (s.sdu.state = .queued → RunsTo (.permissiveChange .opened) s fun t =>
        SduAlone off t ∧ Stops .permissive off t ∧ t.rif = off.rif ∧ ClaimLeaves .saw s t ∧
        ((table .saw s).pending = true → t.sdu.entryState = readStatus (ownerReads .saw 1 s) ∧
          (readStatus (ownerReads .saw 1 s) ≠ .good → t.sdu.values = s.sdu.values)) ∧
        IssuesOn s.issued t.issued []) ∧
      (s.sdu.state = .star ∨ s.sdu.state = .delta ∨ s.sdu.state = .run →
        RunsTo (.permissiveChange .opened) s fun t =>
          SduAlone off t ∧ FaultsWith .permissive opened t ∧ t.rif = off.rif ∧ t.tbs = s.tbs ∧
          (s.sdu.state = .run → t.sbu = s.sbu) ∧ t.issued = s.issued ++ [.latchNotice .sawFault])) ∧
    (idle ∨ s.sdu.state = .queued → exec .sduRingDown s = .next { down with sdu := held }) ∧
    (s.sdu.state = .run → exec .sduRingDown s = .next
      { down with
        sdu := { held with ringCheck := true, contactor := .withdrawn, feed := 0 }
        rif := { s.rif with holding := { s.rif.holding with sawContactor := none, feed := some 0 } } }) ∧
    (s.sdu.state = .star ∨ s.sdu.state = .delta → RunsTo .sduRingDown s fun t =>
      SduAlone s t ∧ FaultsWith .ring s { t with sdu := { t.sdu with confirmTimer := started } } ∧
      t.sdu.confirmTimer = suspendedAt s.now started ∧
      (s.sdu.contactor ≠ .off → t.sdu.confirmTimer = .suspended 1000000 false) ∧
      (s.sdu.contactor = .off → t.rif.holding.sawContactor = s.rif.holding.sawContactor) ∧ t.tbs = s.tbs ∧
      t.issued = flightAfter .sduRingDown s [.latchNotice .sawFault])

/-- Shed orders, NO-HEADROOM, mode notices, SAW-CLASS and SAW-LOCKOUT at the saw, in every state; a record that stands
as the saw leaves its state leaves with it. The model's own choice in it: log 22 (a mode notice from a mode other than
RUN, also one into TRIPPED, has no effect). -/
def Obligations.OrdersToTheSaw : Prop :=
  ∀ s : State, s.mainPresent = true →
    let motor : Prop := s.sdu.state = .star ∨ s.sdu.state = .delta ∨ s.sdu.state = .run
    (motor → RunsTo .shedOrder s fun t =>
      SduAlone s t ∧ RunsDown .shed s t ∧ ClaimLeaves .saw s t ∧ t.issued = flightAfter .shedOrder s []) ∧
    (¬motor → exec .shedOrder s = .next { s with issued := flightAfter .shedOrder s [] }) ∧
    (s.sdu.state = .queued → RunsTo .noHeadroom s fun t =>
      SduAlone s t ∧ Stops .noHeadroom s t ∧ ClaimLeaves .saw s t ∧ Issues .noHeadroom s t []) ∧
    (s.sdu.state ≠ .queued → exec .noHeadroom s = .next { s with issued := flightAfter .noHeadroom s [] }) ∧
    (∀ old new : PlantMode,
      (old = .run → new = .stopping ∨ new = .tripped → RunsTo (.sduModeNotice old new) s fun t =>
        let reason : SawReason := if new = .tripped then .trip else .plant
        SduAlone s t ∧ ClaimLeaves .saw s t ∧ t.sdu.contactor = .off ∧ t.sdu.feed = 0 ∧ t.rif.holding.feed = some 0 ∧
        (s.sdu.contactor ≠ .off → t.rif.holding.sawContactor = some 0) ∧
        (s.sdu.state = .queued → t.sdu.state = .stopped ∧ t.sdu.reason = reason) ∧
        (motor → RunsDown reason s t) ∧
        (s.sdu.state = .stopped ∨ s.sdu.state = .rundown ∨ s.sdu.state = .fault →
          t.sdu.state = s.sdu.state ∧ t.sdu.reason = s.sdu.reason ∧ t.sdu.rundownTimer = s.sdu.rundownTimer) ∧
        Issues (.sduModeNotice old new) s t []) ∧
      (old ≠ .run ∨ (new ≠ .stopping ∧ new ≠ .tripped) → exec (.sduModeNotice old new) s = .next
        { s with issued := flightAfter (.sduModeNotice old new) s [] })) ∧
    (∀ cls : Nat, exec (.sawClass cls) s = .next
      { s with
        issued := flightAfter (.sawClass cls) s (if s.sdu.cls = cls then [] else [.sbuClassNotice .saw cls])
        sdu := { s.sdu with cls := cls } }) ∧
    ∀ on : Bool, exec (.sawLockout on) s = .next
      { s with issued := flightAfter (.sawLockout on) s [], sdu := { s.sdu with lockout := on } }

/-- SDU at a sample set, in every state of the saw and with the entry in each status. Class, lockout, permissive and f_set
view stand, and the sequence timers move with an entry to RUNDOWN or FAULT alone. With a SAW entry that is not GOOD the
saw comes down. With one that is GOOD: the feed law in RUN with both factors recorded, and feed 0 with no factors
otherwise; the instantaneous trip; the stall timer with its freeze and resume; the confirm watch in every state with the
resume of a suspended one; the ring check; and the button, of which only a press that follows a 0 and passes every test
starts a STOPPED saw. The model's own choices in it: log 23; 34 (a FAILED watch is compared afresh once the saw is out of
FAULT). -/
def Obligations.SampleSetsDriveTheSaw : Prop :=
  ∀ (set : SampleSet) (s : State), s.mainPresent = true → TablesCanonical s →
    let c := Instr.sduSampleSet set
    let read := if s.sdu.state = .stopped then ownerReads .saw 1 s else activeReads .saw 1 s
    let next := ownerReads .saw 1 s
    let swaps := (table .saw s).pending
    let button := (setView set .sawButton 0).current
    let contact := (setView set .sawContactor 0).current
    let amps := (setView set .sawCurrent 0).current
    let freq := (setFrequency set).2
    let motor : Prop := s.sdu.state = .star ∨ s.sdu.state = .delta ∨ s.sdu.state = .run
    let pressed : Prop := button = some 1 ∧ s.sdu.button = .released
    let free : Prop := s.tsu.mode = .run ∧ s.sdu.lockout = false ∧ s.sdu.permissive = .closed
    let tripped : Prop := ∃ img i, read = .good img ∧ amps = some i ∧ (sawEntry img).tripCurrent ≤ i
    let resumed :=
      match s.sdu.confirmTimer with
      | .suspended left true => .frozen left
      | .suspended left false => .running (s.now + left)
      | x => x
    RunsTo c s fun t =>
      let becomes := fun (x : SawState) (reason : SawReason) => t.sdu.state = x ∧ t.sdu.reason = reason
      let stays : Prop := becomes s.sdu.state s.sdu.reason ∧ Issues c s t []
      let starts := fun v : SawValues =>
        becomes .queued .none ∧ Issues c s t [.sawClaimRequest v.surge s.sdu.cls]
      let unfed : Prop := t.sdu.feed = 0 ∧ t.sdu.factorF = none ∧ t.sdu.factorI = none
      SduAlone s t ∧ t.rif.holding.feed = some t.sdu.feed ∧
      ((s.sdu.ringCheck = true → s.sdu.state = .run) → SawMoves contact s t) ∧
      (button = none → t.sdu.button = .unknown) ∧ (button = some 0 → t.sdu.button = .released) ∧
      (button = some 1 → t.sdu.button = .start) ∧ (button = some 2 → t.sdu.button = .stop) ∧
      (s.sdu.state ≠ .queued → s.sdu.state ≠ .star → s.sdu.state ≠ .delta → t.sbu = s.sbu) ∧
      (¬motor → t.sdu.stallTimer = .stopped) ∧
      (¬motor ∨ (readStatus read = .good ∧ button ≠ some 2 ∧ ¬tripped) → s.sdu.ringCheck = false →
        t.sdu.contactor = s.sdu.contactor ∧
        (contact = none → t.sdu.confirm = s.sdu.confirm ∧ t.sdu.confirmTimer = resumed) ∧
        ∀ x, contact = some x →
          (contactorValue s.sdu.contactor = some x → t.sdu.confirm = .confirmed ∧
            t.sdu.confirmTimer = if s.sdu.confirm = .confirmed then resumed else .stopped) ∧
          (contactorValue s.sdu.contactor ≠ some x →
            s.sdu.confirm = .confirmed ∨ (s.sdu.confirm = .failed ∧ s.sdu.state ≠ .fault) →
            t.sdu.confirm = .pending ∧ t.sdu.confirmTimer = .running (s.now + 1000000)) ∧
          (contactorValue s.sdu.contactor ≠ some x →
            s.sdu.confirm = .pending ∨ (s.sdu.confirm = .failed ∧ s.sdu.state = .fault) →
            t.sdu.confirm = s.sdu.confirm ∧ t.sdu.confirmTimer = resumed)) ∧
      (s.sdu.ringCheck = false → s.sdu.state = .rundown ∨ s.sdu.state = .fault → stays) ∧
      (readStatus read ≠ .good →
        unfed ∧
        (s.sdu.state ≠ .queued → t.sdu.entryState = readStatus read ∧ t.sdu.values = s.sdu.values) ∧
        (s.sdu.ringCheck = false → s.sdu.state = .stopped → stays) ∧
        (s.sdu.ringCheck = false → s.sdu.state = .queued → ClaimLeaves .saw s t ∧
          (¬pressed ∨ swaps = false → becomes .stopped .plant ∧ Issues c s t []) ∧
          (pressed → swaps = true →
            (∀ img, next = .good img → (sawEntry img).present = true → free → starts (sawEntry img)) ∧
            (¬(free ∧ ∃ img, next = .good img ∧ (sawEntry img).present = true) →
              becomes .stopped .plant ∧ Issues c s t []))) ∧
        (motor → becomes .rundown .plant ∧ Issues c s t [] ∧ (s.sdu.state ≠ .run → ClaimLeaves .saw s t))) ∧
      ∀ img, read = .good img →
        let v := sawEntry img
        let limit := if s.sdu.state = .star then v.startCurrent else v.stallCurrent
        let ff :=
          match freq with
          | none => 0
          | some f =>
            if s.sdu.fSetView ≤ f + v.d1 then 1000
            else if f + v.d2 ≤ s.sdu.fSetView then 0 else 1000 * (f + v.d2 - s.sdu.fSetView) / (v.d2 - v.d1)
        let fi :=
          match amps with
          | none => 0
          | some i =>
            if i ≤ v.iLabour then 1000
            else if v.iStall ≤ i then 0 else 1000 * (v.iStall - i) / (v.iStall - v.iLabour)
        let start : Prop := pressed ∧ free ∧ v.present = true
        (s.sdu.state ≠ .queued ∨ button ≠ some 2 ∨ swaps = false →
          t.sdu.values = some v ∧ t.sdu.entryState = .good) ∧
        (s.sdu.state = .queued → button = some 2 → swaps = true → t.sdu.entryState = readStatus next ∧
          (readStatus next ≠ .good → t.sdu.values = some v) ∧
          ∀ new, next = .good new → t.sdu.values = some (sawEntry new)) ∧
        (t.sdu.state = s.sdu.state → t.sbu = s.sbu) ∧
        (t.sdu.state = .run → s.sdu.permissive = .closed →
          t.sdu.factorF = some ff ∧ t.sdu.factorI = some fi ∧
          t.sdu.feed = ((setView set .feedSetpoint 0).current.getD 0) * min ff fi / 1000) ∧
        (t.sdu.state ≠ .run ∨ s.sdu.permissive = .opened → unfed) ∧
        (s.sdu.ringCheck = false → s.sdu.state = .stopped → (start → starts v) ∧ (¬start → stays)) ∧
        (s.sdu.ringCheck = false → s.sdu.state = .queued →
          (button ≠ some 2 → stays) ∧
          (button = some 2 → becomes .stopped .stop ∧ Issues c s t [] ∧ ClaimLeaves .saw s t)) ∧
        (motor → button = some 2 →
          becomes .rundown .stop ∧ Issues c s t [] ∧ (s.sdu.state ≠ .run → ClaimLeaves .saw s t)) ∧
        (s.sdu.state = .run → button ≠ some 2 → s.sdu.ringCheck = true → contact ≠ some 2 →
          becomes .rundown .ring ∧ Issues c s t []) ∧
        (s.sdu.state = .run → button ≠ some 2 → s.sdu.ringCheck = true → contact = some 2 → ¬tripped →
          t.sdu.ringCheck = false ∧ t.sdu.contactor = .delta ∧ t.rif.holding.sawContactor = some 2 ∧
          t.sdu.confirm = .confirmed ∧ t.sdu.confirmTimer = .stopped) ∧
        (motor → button ≠ some 2 → s.sdu.ringCheck = false ∨ (s.sdu.state = .run ∧ contact = some 2) →
          (tripped →
            becomes .fault .overcurrent ∧ t.sdu.stallTimer = .stopped ∧ Issues c s t [] ∧
            .latchNotice .sawFault ∈ t.issued ∧ (s.sdu.state ≠ .run → ClaimLeaves .saw s t)) ∧
          (¬tripped → stays ∧ t.sdu.ringCheck = false ∧
            (∀ i, amps = some i → limit ≤ i → t.sdu.stallTimer =
              match s.sdu.stallTimer with
              | .stopped => .running (s.now + v.stallTime * 1000)
              | .frozen left => .running (s.now + left)
              | x => x) ∧
            (∀ i, amps = some i → i < limit → t.sdu.stallTimer = .stopped) ∧
            (amps = none → t.sdu.stallTimer =
              match s.sdu.stallTimer with
              | .running d => .frozen (d - s.now)
              | x => x)))

/-! ### The feeders -/

/-- WANT-ON and WANT-OFF, from management and from the schedule, in every state of the feeder: one is judged like the
other, and the schedule's is not answered. The model's own choice in it: log 46 (WANT-OFF gives an OFF feeder the reason
DESIRED-OFF though its entry is DAMAGED). -/
def Obligations.WantsMoveTheFeeder : Prop :=
  ∀ (origin : Origin) (number : Word) (s : State), s.mainPresent = true →
    let on := Instr.feederWantOn origin number
    let off := Instr.feederWantOff origin number
    let reply := fun status : Status =>
      match origin with
      | .management => [plainAnswer status]
      | .schedule => []
    (number.toNat = 0 ∨ 12 < number.toNat →
      exec on s = .next { s with issued := flightAfter on s (reply .badArgument) } ∧
      exec off s = .next { s with issued := flightAfter off s (reply .badArgument) }) ∧
    ∀ n : Feeder, number.toNat = n.val + 1 →
      let r := feeder n s
      (feederAbsent r = true →
        exec on s = .next { s with issued := flightAfter on s (reply .absent) } ∧
        exec off s = .next { s with issued := flightAfter off s (reply .absent) }) ∧
      (feederAbsent r = false →
        (r.state = .off → servable r = true → s.tsu.mode = .run → RunsTo on s fun t =>
          FcuAlone s t ∧ BecomesShed n .request { r with desired := true } s t ∧
          t.issued = flightAfter on s (reply .done)) ∧
        (r.state ≠ .off ∨ servable r = false ∨ s.tsu.mode ≠ .run → exec on s = .next
          { setFeeder n { r with desired := true } s with issued := flightAfter on s (reply .done) }) ∧
        (r.state = .off → exec off s = .next
          { setFeeder n { r with desired := false, reason := .desiredOff } s with
            issued := flightAfter off s (reply .done) }) ∧
        (r.state = .locked → exec off s = .next
          { setFeeder n { r with desired := false } s with issued := flightAfter off s (reply .done) }) ∧
        (r.state ≠ .off → r.state ≠ .locked → RunsTo off s fun t =>
          FcuAlone s t ∧ t.issued = flightAfter off s (reply .done) ∧
          FeederBecomes n (parked .off .desiredOff { r with desired := false }) s t ∧
          (r.state = .shed → (∀ e ∈ t.sbu.shedList, e.feeder ≠ n) ∧
            t.sbu = { s.sbu with shedList := t.sbu.shedList }) ∧
          (r.state = .restoring ∨ r.state = .closing ∨ (r.state = .on ∧ r.underRestore = true) →
            ClaimLeaves (.feeder n) s t ∧ RestoreEnds n s.now s t ∧ t.sbu.shedList = s.sbu.shedList) ∧
          (r.state = .tripped ∨ (r.state = .on ∧ r.underRestore = false) → t.sbu = s.sbu)))

/-- CLEAR (R132) by the cases of its request (R145): BAD-ARGUMENT for a number outside 1 to 12 and ABSENT for an
absent feeder. In LOCKED it sets the feeder OFF with reason NONE and joins it where it is wanted, servable and in RUN;
it keeps the last-trip time and the breaker OPEN, and in every other state it changes nothing. -/
def Obligations.ClearUnlocksTheFeeder : Prop :=
  ∀ (number : Word) (s : State), s.mainPresent = true →
    let clear := Instr.feederClear number
    (number.toNat = 0 ∨ 12 < number.toNat → exec clear s = .next (answeredOnly clear .badArgument s)) ∧
    ∀ n : Feeder, number.toNat = n.val + 1 →
      let r := feeder n s
      let joins : Prop := r.desired = true ∧ servable r = true ∧ s.tsu.mode = .run
      (feederAbsent r = true → exec clear s = .next (answeredOnly clear .absent s)) ∧
      (feederAbsent r = false → r.state = .locked → RunsTo clear s fun t =>
        FcuAlone s t ∧ t.issued = flightAfter clear s [plainAnswer .done] ∧ (feeder n t).lastTrip = r.lastTrip ∧
        t.rif.holding.feederBreaker[n] = some 0 ∧
        (joins → BecomesShed n .request r s t) ∧
        (¬joins → FeederBecomes n { r with state := .off, reason := .none } s t ∧ t.sbu = s.sbu)) ∧
      (feederAbsent r = false → r.state ≠ .locked → exec clear s = .next (answeredOnly clear .done s))

/-- GRANTED takes a RESTORING feeder to CLOSING; the breaker watch locks a closing feeder and trips an ON one; the
settle timer ends a restore; the trip timer trips; the reclose timer joins the feeder or takes it OFF. The model's
own choices in it: log 2, 25. -/
def Obligations.FeederTimersAct : Prop :=
  ∀ (n : Feeder) (x : Nat) (s : State), s.mainPresent = true →
    let r := feeder n s
    let u := advanceTo x s
    (r.state = .restoring → RunsTo (.feederGranted n) s fun t =>
      FcuAlone s t ∧ t.sbu = s.sbu ∧ t.issued = flightAfter (.feederGranted n) s [] ∧
      FeederBecomes n
        { r with
          state := .closing
          watch := if s.rif.ring = .up then .running (s.now + 1000000) else .suspended 1000000 false } s t) ∧
    (r.state ≠ .restoring →
      exec (.feederGranted n) s = .next { s with issued := flightAfter (.feederGranted n) s [] }) ∧
    (r.watch = .running x → r.state = .closing → RunsTo (.breakerWatchTimerExpiry n) s fun t =>
      FcuAlone u t ∧ ClaimLeaves (.feeder n) s t ∧ RestoreEnds n u.now u t ∧
      t.issued = s.issued ++ [.latchNotice .feederLocked] ∧
      FeederBecomes n
        { r with
          state := .locked, reason := .breaker, watch := .stopped, settle := .stopped, trip := .stopped
          underRestore := false } u t) ∧
    (r.watch = .running x → r.state = .on → RunsTo (.breakerWatchTimerExpiry n) s fun t =>
      FcuAlone u t ∧ FeederTrips n .mismatch (setFeeder n { r with watch := .stopped } u) t) ∧
    (r.watch = .running x → r.state ≠ .closing → r.state ≠ .on →
      exec (.breakerWatchTimerExpiry n) s = .next (setFeeder n { r with watch := .stopped } u)) ∧
    (r.settle = .running x → r.state = .on → RunsTo (.settleTimerExpiry n) s fun t =>
      FcuAlone u t ∧ t.issued = s.issued ∧ t.rif = s.rif ∧ ClaimLeaves (.feeder n) s t ∧ RestoreEnds n u.now u t ∧
      feeder n t = { r with settle := .stopped, underRestore := false } ∧
      ∀ m, m ≠ n → feeder m t = feeder m s) ∧
    (r.settle = .running x → r.state ≠ .on →
      exec (.settleTimerExpiry n) s = .next (setFeeder n { r with settle := .stopped } u)) ∧
    (r.trip = .running x → r.state = .on → RunsTo (.tripTimerExpiry n) s fun t =>
      FcuAlone u t ∧ FeederTrips n .overcurrent (setFeeder n { r with trip := .stopped } u) t) ∧
    (r.trip = .running x → r.state ≠ .on →
      exec (.tripTimerExpiry n) s = .next (setFeeder n { r with trip := .stopped } u)) ∧
    (r.reclose = .running x → r.state = .tripped → RunsTo (.recloseTimerExpiry n) s fun t =>
      FcuAlone u t ∧ t.issued = s.issued ∧
      (servable r = true → s.tsu.mode = .run → BecomesShed n .reclose r u t) ∧
      (servable r = true → s.tsu.mode ≠ .run → FeederBecomes n (parked .off .plant r) u t ∧ t.sbu = s.sbu) ∧
      (servable r = false → t.sbu = s.sbu ∧
        FeederBecomes n
          (parked .off (if r.entryState = .good ∧ feederPresent r = true then .allowance else .table) r) u t)) ∧
    (r.reclose = .running x → r.state ≠ .tripped →
      exec (.recloseTimerExpiry n) s = .next (setFeeder n { r with reclose := .stopped } u))

/-- Tier notices at a feeder in every state, under restore and settled; the two ring announcements; and mode notices at FCU,
a notice into RUN also once TSU's mode is no longer RUN, where SBU refuses the join and the feeder goes OFF. The model's own
choices in it: log 22, 26, 47. -/
def Obligations.FeederNotices : Prop :=
  ∀ s : State, s.mainPresent = true →
    (∀ (n : Feeder) (tier : Tier),
      let old := feeder n s
      let r := { old with tier := tier }
      let joins : Prop := servable old = false ∧ servable r = true ∧ old.state = .off ∧ old.desired = true ∧
        s.tsu.mode = .run
      RunsTo (.tierNotice n tier) s fun t =>
        FcuAlone s t ∧ t.issued = flightAfter (.tierNotice n tier) s [] ∧
        (unservedTier r = true → old.state ≠ .off → old.state ≠ .locked →
          let restored : Prop := old.state = .restoring ∨ old.state = .closing ∨
            (old.state = .on ∧ old.underRestore = true)
          FeederBecomes n (parked .off .allowance r) s t ∧
          (old.state = .shed → t.sbu = { s.sbu with shedList := t.sbu.shedList } ∧ EntryLeaves n s t) ∧
          (restored → t.sbu.shedList = s.sbu.shedList ∧ ClaimLeaves (.feeder n) s t ∧ RestoreEnds n s.now s t) ∧
          (old.state ≠ .shed → ¬restored → t.sbu = s.sbu)) ∧
        (unservedTier r = false → joins → BecomesShed n .request r s t) ∧
        ((unservedTier r = true ∧ (old.state = .off ∨ old.state = .locked)) ∨ (unservedTier r = false ∧ ¬joins) →
          feeder n t = r ∧ (∀ m, m ≠ n → feeder m t = feeder m s) ∧ t.sbu = s.sbu ∧ t.rif = s.rif)) ∧
    (RunsTo .fcuRingDown s fun t =>
      let hold := fun x : HeldTimer =>
        match x with
        | .running d => .suspended (d - s.now) false
        | .frozen r => .suspended r true
        | .stopped => .stopped
        | .suspended r f => .suspended r f
      t = { s with
        issued := flightAfter .fcuRingDown s [], fcu := { s.fcu with feeders := t.fcu.feeders } } ∧
      ∀ n : Feeder,
        feeder n t = { feeder n s with watch := hold (feeder n s).watch, trip := hold (feeder n s).trip }) ∧
    (RunsTo .fcuRingUp s fun t =>
      let free := fun x : HeldTimer =>
        match x with
        | .suspended r true => .frozen r
        | .suspended r false => .running (s.now + r)
        | .running d => .running d
        | .frozen r => .frozen r
        | .stopped => .stopped
      t = { s with issued := flightAfter .fcuRingUp s [], fcu := { s.fcu with feeders := t.fcu.feeders } } ∧
      ∀ n : Feeder,
        feeder n t = { feeder n s with watch := free (feeder n s).watch, trip := free (feeder n s).trip }) ∧
    ∀ old new : PlantMode,
      (new = .run → RunsTo (.fcuModeNotice old new) s fun t =>
        FcuAlone s t ∧ t.issued = flightAfter (.fcuModeNotice old new) s [] ∧
        t.fcu.overVoltage = s.fcu.overVoltage ∧ t.sbu = { s.sbu with shedList := t.sbu.shedList } ∧
        (s.tsu.mode ≠ .run → t.sbu.shedList = s.sbu.shedList) ∧
        ∀ n : Feeder,
          let r := feeder n s
          let joins : Prop := r.state = .off ∧ r.desired = true ∧ servable r = true
          (joins → t.rif.holding.feederBreaker[n] = some 0) ∧
          (joins → s.tsu.mode = .run → feeder n t = parked .shed .startup r ∧
            ∃ e ∈ t.sbu.shedList, e.feeder = n ∧ e.cls = r.cls ∧ e.reason = .startup) ∧
          (joins → s.tsu.mode ≠ .run → feeder n t = parked .off .plant r) ∧
          (¬joins → feeder n t = r ∧ t.rif.holding.feederBreaker[n] = s.rif.holding.feederBreaker[n])) ∧
      (old = .run → new = .stopping ∨ new = .tripped → RunsTo (.fcuModeNotice old new) s fun t =>
        FcuAlone s t ∧ t.issued = flightAfter (.fcuModeNotice old new) s [] ∧ t.fcu.overVoltage = 0 ∧
        ∀ n : Feeder,
          let r := feeder n s
          (r.state = .locked → feeder n t = r) ∧
          (r.state ≠ .locked → feeder n t = parked .off .plant r ∧ t.rif.holding.feederBreaker[n] = some 0) ∧
          (r.state = .shed → ∀ e ∈ t.sbu.shedList, e.feeder ≠ n) ∧
          (r.state = .restoring ∨ r.state = .closing ∨ r.state = .on →
            NoClaim (.feeder n) t ∧ t.sbu.restoring ≠ some n)) ∧
      (new ≠ .run → old ≠ .run ∨ (new ≠ .stopping ∧ new ≠ .tripped) → exec (.fcuModeNotice old new) s = .next
        { s with issued := flightAfter (.fcuModeNotice old new) s [] })

/-- FCU at a sample set, feeder by feeder, in every state: its entry's read with the class it brings, the loss of a feeder
that is not servable, a join where the read makes it servable, the confirm of a closing breaker, and the breaker watch and
the trip timer of an ON feeder with the rest of its record standing; a feeder in any other state only takes the read. And
the over-voltage count, which an unavailable LINE-VOLTAGE leaves as it is, with its shed. The model's own choices in it: log
24; 26 (an OFF feeder whose tier is not served); 40 (SHED is latched at over-voltage though no feeder is ON). -/
def Obligations.SampleSetsSuperviseTheFeeders : Prop :=
  ∀ (set : SampleSet) (n : Feeder) (s : State), s.mainPresent = true → TablesCanonical s →
    let old := feeder n s
    let read := ownerReads .feeders (n.val + 1) s
    let r :=
      match read with
      | .good img =>
        { old with
          values := some (feederEntry img), entryState := .good
          cls := if (feederEntry img).present = true then (feederEntry img).cls else 7 }
      | _ => { old with entryState := readStatus read, cls := 7 }
    let breaker := (setView set .feederBreaker (n.val + 1)).current
    let amps := (setView set .feederCurrent (n.val + 1)).current
    let volts := (setView set .lineVoltage 0).current
    let counts : Prop := s.tsu.mode = .run ∧ ∃ p v, s.tsu.protection = some p ∧ volts = some v ∧ p.vHigh < v
    let sheds : Prop := counts ∧ ∀ p, s.tsu.protection = some p → p.ovCount ≤ s.fcu.overVoltage + 1
    let confirmed : Prop := old.state = .closing ∧ breaker = some 1
    let joins : Prop := servable old = false ∧ old.desired = true ∧ s.tsu.mode = .run
    let restored : Prop := old.state = .restoring ∨ old.state = .closing ∨
      (old.state = .on ∧ old.underRestore = true)
    let watch :=
      match breaker with
      | none => old.watch
      | some 0 =>
        match old.watch with
        | .stopped => .running (s.now + 1000000)
        | x => x
      | some _ => .stopped
    let trip := fun v : FeederValues =>
      let limit := match old.tier with | .normal => v.normalLimit | .reduced => v.reducedLimit
      match amps with
      | none =>
        match old.trip with
        | .running d => .frozen (d - s.now)
        | x => x
      | some i =>
        if limit < i then
          match old.trip with
          | .stopped => .running (s.now + v.tripDelay * 1000)
          | .frozen left => .running (s.now + left)
          | x => x
        else .stopped
    RunsTo (.fcuSampleSet set) s fun t =>
      let stands : Prop := feeder n t = r ∧ t.rif.holding.feederBreaker[n] = s.rif.holding.feederBreaker[n]
      let becomes := fun x : FeederRecord =>
        feeder n t = x ∧ t.rif.holding.feederBreaker[n] = some (breakerCommand x)
      let listed := fun reason : ShedReason =>
        ∃ e ∈ t.sbu.shedList, e.feeder = n ∧ e.cls = r.cls ∧ e.reason = reason
      let reported : Prop := NoClaim (.feeder n) t ∧ (s.sbu.restoring = some n →
        t.sbu.restoring = none ∧ t.sbu.restoreGap = .running (s.now + s.sbu.balance.restoreGap * 1000 * 1000))
      let noticed : Instr := .latchNotice .shed
      FcuAlone s t ∧ (table .feeders t).pending = false ∧
      (r.cls ≠ old.cls → .sbuClassNotice (.feeder n) r.cls ∈ t.issued) ∧
      (old.state = .locked → stands) ∧
      (servable r = false → old.state = .off → stands) ∧
      (servable r = false → old.state ≠ .off → old.state ≠ .locked →
        becomes (parked .off (if r.entryState = .good ∧ feederPresent r = true then .allowance else .table) r) ∧
        (old.state = .shed → ∀ e ∈ t.sbu.shedList, e.feeder ≠ n) ∧ (restored → reported)) ∧
      (servable r = true → old.state = .shed ∨ old.state = .restoring ∨ old.state = .tripped → stands) ∧
      (servable r = true → old.state = .off →
        (joins → becomes (parked .shed .request r) ∧ listed .request) ∧ (¬joins → stands)) ∧
      (servable r = true → old.state = .closing → breaker ≠ some 1 → stands) ∧
      (servable r = true → confirmed → ¬sheds →
        becomes { r with
          state := .on, watch := .stopped, settle := .running (s.now + s.sbu.balance.settleTime * 1000) }) ∧
      (servable r = true → old.state = .on → ¬sheds →
        t.rif.holding.feederBreaker[n] = s.rif.holding.feederBreaker[n] ∧
        ∀ v, r.values = some v → feeder n t = { r with watch := watch, trip := trip v }) ∧
      (servable r = true → old.state = .on ∨ confirmed → sheds →
        becomes (parked .shed .voltage { r with preShed := lastPower n s }) ∧ listed .voltage ∧
        (old.underRestore = true → reported)) ∧
      (sheds → t.fcu.overVoltage = 0 ∧ t.issued.count noticed = s.issued.count noticed + 1) ∧
      (¬sheds → t.issued.count noticed = s.issued.count noticed) ∧
      (counts → ¬sheds → t.fcu.overVoltage = s.fcu.overVoltage + 1) ∧
      (s.tsu.mode ≠ .run ∨ s.tsu.protection = none → t.fcu.overVoltage = 0) ∧
      (s.tsu.mode = .run → s.tsu.protection ≠ none → volts = none → t.fcu.overVoltage = s.fcu.overVoltage) ∧
      ∀ p v, s.tsu.mode = .run → s.tsu.protection = some p → volts = some v → v ≤ p.vHigh → t.fcu.overVoltage = 0

/-! ### Energy accounts -/

/-- EAU at a sample set and at a metering report: every metered account with a power takes its energy, one without takes
the gap flag, and a feeder that reaches its allowance at a carry goes to REDUCED. -/
def Obligations.EnergyIsMetered : Prop :=
  ∀ s : State, s.mainPresent = true →
    (∀ set : SampleSet, RunsTo (.eauSampleSet set) s fun t =>
      t = { s with issued := t.issued, eau := { s.eau with accounts := t.eau.accounts, tiers := t.eau.tiers } } ∧
      account 13 t = account 13 s ∧
      (∀ n : Feeder,
        let a := account (feederAccount n) s
        let b := account (feederAccount n) t
        let power := (setView set .feederPower (n.val + 1)).current
        let allowance := ((feeder n s).values.map (·.allowance)).getD 0
        (feederPresent (feeder n s) = false → b = a ∧ t.eau.tiers[n] = s.eau.tiers[n]) ∧
        (feederPresent (feeder n s) = true → power = none →
          b = { a with gap := true } ∧ t.eau.tiers[n] = s.eau.tiers[n] ∧
          (a.gap = false → .latchNotice .meteringGap ∈ t.issued)) ∧
        (feederPresent (feeder n s) = true → ∀ p, power = some p →
          let reached : Prop := 3600000 ≤ a.remainder + p * set.period ∧ s.eau.tiers[n] = .normal ∧ allowance ≠ 0 ∧
            allowance ≤ b.daily
          AddsEnergy s.eau.band (p * set.period) a b ∧
          (reached → t.eau.tiers[n] = .reduced ∧ .latchNotice .allowanceReached ∈ t.issued ∧
            .tierNotice n .reduced ∈ t.issued) ∧
          (¬reached → t.eau.tiers[n] = s.eau.tiers[n]))) ∧
      (s.sdu.values.any (·.present) = false → account 12 t = account 12 s) ∧
      (s.sdu.values.any (·.present) = true →
        (∀ i v, (setView set .sawCurrent 0).current = some i → (setView set .lineVoltage 0).current = some v →
          AddsEnergy s.eau.band (i * v / 100 * set.period) (account 12 s) (account 12 t)) ∧
        ((setView set .sawCurrent 0).current = none ∨ (setView set .lineVoltage 0).current = none →
          account 12 t = { account 12 s with gap := true }))) ∧
    ∀ energy power : Nat, RunsTo (.eauMeteringReport energy power) s fun t =>
      t = { s with
        issued := flightAfter (.eauMeteringReport energy power) s []
        eau := { s.eau with accounts := t.eau.accounts } } ∧
      AddsEnergy s.eau.band energy (account 13 s) (account 13 t) ∧ ∀ i : Fin 14, i ≠ 13 → account i t = account i s

/-- The band of a minute event, from the calendar's validity, the day type and the TARIFF entry of the half hour; the
day boundary; and ACCOUNT-RESET in COMMISSION. The model's own choices in it: log 5 (ACCOUNT-RESET issues the tier
notice before the answer); 48 (the order of the tier notices of one day boundary). -/
def Obligations.BandDayBoundaryAndReset : Prop :=
  ∀ s : State, s.mainPresent = true →
    (∀ stamp : Stamp, TablesCanonical s → RunsTo (.eauMinuteEvent stamp) s fun t =>
      t = { s with
        issued := t.issued, tbs := t.tbs
        eau := { s.eau with
          band := t.eau.band, dayType := t.eau.dayType, slot := t.eau.slot, basis := t.eau.basis } } ∧
      EntriesReadAlike s t ∧ Issues (.eauMinuteEvent stamp) s t [] ∧
      (table .tariff t).pending = false ∧ (table .holidays t).pending = false ∧
      (stamp.valid = false →
        t.eau.band = .standard ∧ t.eau.dayType = none ∧ t.eau.slot = none ∧ t.eau.basis = .calendarInvalid) ∧
      (stamp.valid = true →
        let rest : Prop := stamp.weekday = .sunday ∨ HolidayIn (fun i => ownerReads .holidays i s) stamp
        let slot := stamp.hour * 2 + (if 30 ≤ stamp.minute then 1 else 0)
        t.eau.slot = some slot ∧ (rest → t.eau.dayType = some .rest) ∧ (¬rest → t.eau.dayType = some .workday) ∧
        ∀ i, (rest → i = slot + 49) → (¬rest → i = slot + 1) →
          (∀ img, ownerReads .tariff i s = .good img → t.eau.band = tariffEntry img ∧ t.eau.basis = .table) ∧
          (readStatus (ownerReads .tariff i s) ≠ .good →
            t.eau.band = .standard ∧ t.eau.basis = .entryNotGood))) ∧
    (RunsTo .dayBoundary s fun t =>
      t = { s with
        issued := flightAfter .dayBoundary s
          (((List.finRange 12).filter fun n => s.eau.tiers[n] = .reduced).map fun n => .tierNotice n .normal)
        eau := { s.eau with accounts := t.eau.accounts, tiers := t.eau.tiers } } ∧
      (∀ i : Fin 14, account i t = { account i s with daily := 0 }) ∧ ∀ n : Feeder, t.eau.tiers[n] = .normal) ∧
    ∀ number : Word,
      let reset := Instr.accountReset number
      (number.toNat = 0 ∨ 14 < number.toNat → exec reset s = .next (answeredOnly reset .badArgument s)) ∧
      ∀ i : Fin 14, number.toNat = i.val + 1 →
        (s.tsu.mode ≠ .commission → exec reset s = .next (answeredOnly reset .refusedMode s)) ∧
        (s.tsu.mode = .commission → RunsTo reset s fun t =>
          t = { s with
            issued := t.issued, eau := { s.eau with accounts := t.eau.accounts, tiers := t.eau.tiers } } ∧
          account i t = Account.zero ∧ (∀ j : Fin 14, j ≠ i → account j t = account j s) ∧
          (∀ n : Feeder, t.eau.tiers[n] = if n.val = i.val then .normal else s.eau.tiers[n]) ∧
          (∀ n : Feeder, n.val = i.val → s.eau.tiers[n] = .reduced →
            t.issued = flightAfter reset s [.tierNotice n .normal, plainAnswer .done]) ∧
          ((∀ n : Feeder, n.val = i.val → s.eau.tiers[n] = .normal) →
            t.issued = flightAfter reset s [plainAnswer .done]))

/-! ### Calendar and schedule -/

/-- The rollover advances the calendar by one second, with the carries to the date, and while the main supply is
present issues the second events and at second 0 the minute events with the stamp of the calendar as it then stands;
CALENDAR-SET sets a valid date and time with its weekday. The model's own choices in it: log 2; 5 (the receivers are
issued their events in the order TSU, FRG and EAU, FRG, CSU, which R161 does not fix). -/
def Obligations.CalendarCountsAndIsSet : Prop :=
  ∀ s : State,
    (calendarCounts s = true → CalendarInRange s.csu → RunsTo .dividerRollover s fun t =>
      let c := s.csu
      let d := t.csu
      let stamp : Stamp :=
        { year := d.year, month := d.month, day := d.day, hour := d.hour, minute := d.minute, weekday := d.weekday
          valid := d.valid }
      t = { s with now := s.now + (1000000 - c.divider), csu := d, issued := t.issued } ∧ CalendarInRange d ∧
      d.divider = c.divider - 1000000 ∧ d.valid = c.valid ∧ d.lastEvaluation = c.lastEvaluation ∧
      t.issued = s.issued ++
        (if s.mainPresent = true then
          [.tsuSecondEvent, .frgSecondEvent] ++
          (if d.second = 0 then [.eauMinuteEvent stamp, .frgMinuteEvent stamp, .csuMinuteEvent stamp] else [])
         else []) ∧
      (secondOfDay c + 1 < 86400 →
        secondOfDay d = secondOfDay c + 1 ∧ d.year = c.year ∧ d.month = c.month ∧ d.day = c.day ∧
        d.weekday = c.weekday) ∧
      (secondOfDay c + 1 = 86400 →
        secondOfDay d = 0 ∧
        (c.year = 2099 → c.month = 12 → c.day = 31 →
          d.year = 2000 ∧ d.month = 1 ∧ d.day = 1 ∧ d.weekday = .saturday) ∧
        (¬(c.year = 2099 ∧ c.month = 12 ∧ c.day = 31) →
          d.weekday = nextWeekday c.weekday ∧
          daysSince2000 d.year d.month d.day = daysSince2000 c.year c.month c.day + 1))) ∧
    ∀ year month day hour minute second : Word, s.mainPresent = true →
      let set := Instr.calendarSet year month day hour minute second
      let given := { s.csu with
        year := year.toNat, month := month.toNat, day := day.toNat, hour := hour.toNat, minute := minute.toNat
        second := second.toNat, divider := 0, valid := true }
      (CalendarInRange given → exec set s = .next
        { s with
          issued := flightAfter set s [plainAnswer .done]
          csu := { given with
            weekday := weekdayAfterSaturday (daysSince2000 year.toNat month.toNat day.toNat) } }) ∧
      (¬CalendarInRange given → exec set s = .next (answeredOnly set .badArgument s))

/-- The schedule at a minute event: with an invalid stamp nothing runs; with a valid one every matching entry runs its
action in entry order or is skipped, and the record says which. The model's own choices in it: log 5 (the order of
issue); 27 (Enabled yes is coded 0); 28 (Monday is bit 0 of a weekday set, and the holiday rule ANY is coded 0). -/
def Obligations.ScheduleRunsMatchingEntries : Prop :=
  ∀ (stamp : Stamp) (s : State), s.mainPresent = true → TablesCanonical s →
    let holiday : Prop := HolidayIn (fun i => activeReads .holidays i s) stamp
    let entry := fun i => ownerReads .schedule i s
    let matching : Nat → Prop := fun i => 1 ≤ i ∧ i ≤ 16 ∧
      ∃ img, entry i = .good img ∧ EntryMatches (scheduleEntry img) stamp holiday
    let skips : Nat → Prop := fun i => ∃ img, entry i = .good img ∧ actionSkipped (scheduleEntry img).action s = true
    let action := fun i =>
      match entry i with
      | .good img => [actionEvent (scheduleEntry img).action]
      | _ => []
    RunsTo (.csuMinuteEvent stamp) s fun t =>
      t = { s with issued := t.issued, tbs := t.tbs, csu := { s.csu with lastEvaluation := t.csu.lastEvaluation } } ∧
      (table .schedule t).pending = false ∧ EntriesReadAlike s t ∧
      (stamp.valid = false → t.csu = s.csu ∧ t.issued = flightAfter (.csuMinuteEvent stamp) s []) ∧
      (stamp.valid = true → ∃ e, t.csu.lastEvaluation = some e ∧ e.stamp = stamp ∧
        (∀ i, i ∈ e.ran ↔ matching i ∧ ¬skips i) ∧ (∀ i, i ∈ e.skipped ↔ matching i ∧ skips i) ∧
        e.ran.Pairwise (· < ·) ∧ e.skipped.Pairwise (· < ·) ∧
        (t.issued.filter fun x => !isLatchNotice x) =
          ((s.issued.erase (.csuMinuteEvent stamp)).filter fun x => !isLatchNotice x) ++ e.ran.flatMap action)

/-! ### Table store -/

/-- WRITE-ENTRY and COPY-ACTIVE: the tests in order, and a taken request changes the standby bank it names and no
other entry, and no mark of any table; the record of a DAMAGED entry written over leaves the damaged-entry list, which
is refilled while its overflow flag is set; and COPY-ACTIVE corrects the single-bit errors of what it reads, with the
last-correction record, and finds the double errors of what it reads and of what it writes over. The model's own choices in
it: log 28 and 29 (the codes of an image), 50 (what else of an entry written over is not read). -/
def Obligations.WritesReachTheStandbyBank : Prop :=
  ∀ (id index : Byte) (empty : Bool) (image : Image) (s : State), s.mainPresent = true →
    let write := Instr.writeEntry id index empty image
    let copy := Instr.copyActive id
    (addressed id index = none → exec write s = .next (answeredOnly write .badArgument s)) ∧
    (tableOfId id.toNat = none → exec copy s = .next (answeredOnly copy .badArgument s)) ∧
    (∀ x i, addressed id index = some (x, i) →
      let fits : Prop := empty = true ∨ encodable x i image = true
      let b := otherBank (table x s).active
      (¬fits → exec write s = .next (answeredOnly write .badArgument s)) ∧
      (fits → writeAllowed x s.tsu.mode = false → exec write s = .next (answeredOnly write .refusedMode s)) ∧
      (fits → writeAllowed x s.tsu.mode = true → (table x s).pending = true →
        exec write s = .next (answeredOnly write .swapPending s)) ∧
      (fits → writeAllowed x s.tsu.mode = true → (table x s).pending = false → TablesCanonical s →
        RunsTo write s fun t =>
          t = { s with tbs := t.tbs, issued := flightAfter write s [plainAnswer .done] } ∧
          entryAt x b i t = (if empty = true then none else some (.good image .clean)) ∧ OthersStand x b i s t ∧
          (∀ y, MarksStand y s t) ∧ ⟨x, b, i⟩ ∉ t.tbs.damagedList ∧ RecordLeaves ⟨x, b, i⟩ s t ∧
          t.tbs = { s.tbs with
            tables := t.tbs.tables, damagedList := t.tbs.damagedList, overflow := t.tbs.overflow })) ∧
    ∀ x, tableOfId id.toNat = some x →
      let b := otherBank (table x s).active
      let damaged := (tableIndexes x).filter fun i => activeReads x i s = .damaged
      (writeAllowed x s.tsu.mode = false → exec copy s = .next (answeredOnly copy .refusedMode s)) ∧
      (writeAllowed x s.tsu.mode = true → (table x s).pending = true →
        exec copy s = .next (answeredOnly copy .swapPending s)) ∧
      (writeAllowed x s.tsu.mode = true → (table x s).pending = false → TablesCanonical s →
        RunsTo copy s fun t =>
          t = { s with tbs := t.tbs, issued := t.issued } ∧
          (∀ i ∈ tableIndexes x, entryAt x b i t =
            match activeReads x i s with
            | .good img => some (.good img .clean)
            | _ => none) ∧
          (∀ i, activeReads x i t = activeReads x i s) ∧
          (∀ y c j, y ≠ x → entryAt y c j t = entryAt y c j s) ∧ (∀ y, MarksStand y s t) ∧
          (∀ i ∈ tableIndexes x, ⟨x, b, i⟩ ∉ t.tbs.damagedList) ∧
          (s.tbs.damagedList.filter fun d => !(d.table = x && d.bank = b && (tableIndexes x).contains d.index))
            <+: t.tbs.damagedList ∧
          SweepChecks x (table x s).active (tableIndexes x) s t ∧
          (∀ i ∈ tableIndexes x, ∀ c img, entryAt x c i s = some (.good img .double) →
            .latchNotice .tableDamaged ∈ t.issued) ∧
          Issues copy s t
            [match damaged.head? with
             | none => plainAnswer .done
             | some i => .ownerAnswer .damaged (wordsOf [BitVec.ofNat 32 i])])

/-- SWAP and READ-ENTRY: the tests of a swap in order; its validation of the standby bank, which is INVALID with the
index of the first entry that fails a check (DAMAGED, EMPTY in tables 1 to 8, out of range, the second present TRIM,
the later of two SAMPLE entries of one quantity) and otherwise marks the swap and advances the generation; and the
answer of a read by the entry's status, with the table state in every answer for a table. A read corrects a single-bit
error, with MEMORY-CORRECTED and the last-correction record and its count, and marks and lists an entry with a double one,
with TABLE-DAMAGED; so do the reads of a validation. The model's own choices in it: log 27 (the codes of two-valued
fields), 29, 43. -/
def Obligations.SwapsAndReads : Prop :=
  ∀ (id index generation : Byte) (role : Role) (s : State), s.mainPresent = true →
    let swap := Instr.swap id generation
    let read := Instr.readEntry id role index
    (tableOfId id.toNat = none →
      exec swap s = .next (answeredOnly swap .badArgument s) ∧ exec read s = .next (answeredOnly read .badArgument s)) ∧
    ∀ x, tableOfId id.toNat = some x →
      let word := tableStateWord (table x s)
      let told := fun (c : Instr) (status : Status) =>
        { s with issued := flightAfter c s [.ownerAnswer status (wordsOf [word])] }
      let fails := FailsCheck x fun i => standbyReads x i s
      let bank := if role = .active then (table x s).active else otherBank (table x s).active
      (writeAllowed x s.tsu.mode = false → exec swap s = .next (told swap .refusedMode)) ∧
      (writeAllowed x s.tsu.mode = true → generation ≠ (table x s).generation →
        exec swap s = .next (told swap .done)) ∧
      (writeAllowed x s.tsu.mode = true → generation = (table x s).generation → (table x s).pending = true →
        exec swap s = .next (told swap .swapPending)) ∧
      (writeAllowed x s.tsu.mode = true → generation = (table x s).generation → (table x s).pending = false →
        TablesCanonical s → RunsTo swap s fun t =>
          t = { s with tbs := t.tbs, issued := t.issued } ∧ EntriesReadAlike s t ∧
          SweepChecks x (otherBank (table x s).active) (tableIndexes x) s t ∧
          (table x t).active = (table x s).active ∧ (table x t).history = (table x s).history ∧
          ((∀ i ∈ tableIndexes x, ¬fails i) →
            (table x t).pending = true ∧ (table x t).generation = (table x s).generation + 1 ∧
            Issues swap s t [.ownerAnswer .done (wordsOf [tableStateWord (table x t)])]) ∧
          (∀ i ∈ tableIndexes x, fails i → (∀ j ∈ tableIndexes x, j < i → ¬fails j) →
            (table x t).pending = false ∧ (table x t).generation = (table x s).generation ∧
            Issues swap s t [.ownerAnswer .invalid (wordsOf [word, BitVec.ofNat 32 i])]) ∧
          (∀ img, x = .regulator → standbyReads x 1 s = .good img →
            (regulatorEntry img).1 < 45000 ∨ 65000 < (regulatorEntry img).1 →
            Issues swap s t [.ownerAnswer .invalid (wordsOf [word, 1])])) ∧
      (addressed id index = none → exec read s = .next (told read .badArgument)) ∧
      ∀ i, addressed id index = some (x, i) → RunsTo read s fun t =>
        let found := entryAt x bank i s
        t = { s with
          tbs := t.tbs
          issued := flightAfter read s (readNotices found ++
            [match resultOf found with
             | .good img => .ownerAnswer .done (wordsOf (word :: img.toList))
             | .empty => .ownerAnswer .absent (wordsOf [word])
             | .damaged => .ownerAnswer .damaged (wordsOf [word])]) } ∧
        ReadChecks x bank i s t ∧ (TablesCanonical s → EntriesReadAlike s t)

/-! ### Live records -/

/-- Every live read changes nothing but for its answer, and but that a read of page 0 of an account clears its
metering-gap flag. A read whose request MMB has taken is answered with the record as it stood then; any other with a
page of its record as it stands. Indexes out of range are BAD-ARGUMENT, and what is not there is ABSENT. The model's
own choices in it: log 27; 30 (the time to the next rollover among them); 36 (the look whether a channel is in use is no
read); 45 (a read without a taken request); 51; 54 (ABSENT before the page is looked at, and the page of a damaged-list
index past the list). -/
def Obligations.LiveReadsOnlyAnswer : Prop :=
  ∀ (index page : Word) (s : State), s.mainPresent = true →
    let i := index.toNat
    let quantity := Instr.readLiveQuantity index page
    let claim := Instr.readLiveClaimListEntry index page
    let shed := Instr.readLiveShedListEntry index page
    let one := Instr.readLiveFeeder index page
    let energy := Instr.readLiveAccount index page
    let damaged := Instr.readLiveDamagedListEntry index page
    let correction := Instr.readLiveLastCorrection page
    let minute := Instr.summaryRead index page
    let plain := [quantity, .readLiveRegulator page, .readLivePlant page, claim, shed, .readLiveSaw page, one,
      .readLiveCalendar page, damaged, correction, minute]
    let shows := fun (c : Instr) (status : Status) (fields : List LiveField) =>
      ReadsNow c s → exec c s = .next (pageRead c status fields page s)
    let refuses := fun (c : Instr) (status : Status) => ReadsNow c s → exec c s = .next (answeredOnly c status s)
    let cleared := fun (t : State) => ∀ n : Fin 14,
      account n t = if i = n.val + 1 ∧ page = 0 then { account n s with gap := false } else account n s
    (∀ r, s.mmb.reading = some r →
      (∀ c ∈ plain, r.event = c → exec c s = .next
        { s with issued := flightAfter c s [.ownerAnswer r.status r.words] }) ∧
      (r.event = energy → RunsTo energy s fun t =>
        t = { s with
          issued := flightAfter energy s [.ownerAnswer r.status r.words]
          eau := { s.eau with accounts := t.eau.accounts } } ∧ cleared t)) ∧
    (∀ k : Fin 64, i = k.val → shows quantity .done (quantityFields k s)) ∧
    (i = 64 → shows quantity .done (shaftFields s)) ∧ (64 < i → refuses quantity .badArgument) ∧
    shows (.readLiveRegulator page) .done (regulatorFields s) ∧
    shows (.readLivePlant page) .done (plantFields s) ∧
    (i ≤ 12 → shows claim .done (balanceFields s ++ claimFields (claims s)[i]? s)) ∧
    (12 < i → refuses claim .badArgument) ∧
    (∀ e, i ≤ 11 → s.sbu.shedList[i]? = some e → shows shed .done (shedFields e s)) ∧
    (i ≤ 11 → s.sbu.shedList[i]? = none → refuses shed .absent) ∧ (11 < i → refuses shed .badArgument) ∧
    shows (.readLiveSaw page) .done (sawFields s) ∧
    (∀ n : Feeder, i = n.val + 1 → shows one .done (feederFields n s)) ∧
    (i = 0 ∨ 12 < i → refuses one .badArgument) ∧
    (∀ n : Fin 14, i = n.val + 1 → ReadsNow energy s → RunsTo energy s fun t =>
      t = { pageRead energy .done (accountFields n s) page s with
        eau := { s.eau with accounts := t.eau.accounts } } ∧ cleared t) ∧
    (i = 0 ∨ 14 < i → refuses energy .badArgument) ∧
    shows (.readLiveCalendar page) .done (calendarFields s) ∧
    (i ≤ 15 → shows damaged (if i < s.tbs.damagedList.length then .done else .absent)
      (damagedFields s.tbs.damagedList[i]? s)) ∧
    (15 < i → refuses damaged .badArgument) ∧
    (∀ c, s.tbs.lastCorrection = some c → shows correction .done (correctionFields c s.tbs.corrections)) ∧
    (s.tbs.lastCorrection = none → refuses correction .absent) ∧
    (∀ e, i < 60 → s.frg.summary[i]? = some e → shows minute .done (summaryFields e)) ∧
    (i < 60 → s.frg.summary[i]? = none → refuses minute .absent) ∧ (60 ≤ i → refuses minute .badArgument)

/-! ### Mailbox and attention -/

/-- A returned request region by the first case that applies: empty, no such position, a response or a request still
waiting, out of turn, or taken; a taken request is refused or handed to its owner by the codes of its kind, its action
and its record kind, and of a taken READ-LIVE or SUMMARY-READ MMB keeps what its owner would answer at that moment. A
control or write request reads the PROTECTION entry, which sets the authorised list in use and, where it is GOOD, the list
of MMB's last GOOD read; the table store moves by that read alone. The model's own choices in it: log 17, 45, 53 (what the
codes leave of the data words is ignored). -/
def Obligations.RequestsAreTakenInTurn : Prop :=
  ∀ (r : RequestRegion) (s : State), s.mainPresent = true →
    let c := Instr.mmbRequestRegion r
    let k := r.owner.toNat
    let kind := r.kind.toNat
    let after := { s with issued := flightAfter c s [] }
    let reply := fun status : Status =>
      some ({ addressee := r.owner, tag := r.tag, status := status, words := wordsOf [] } : Response)
    let next := if k = 31 then 1 else k + 1
    let reading : Prop := kind = 1 ∨ kind = 5 ∨ kind = 11 ∨ kind = 12
    let auth := activeReads .protection 1 s
    let bank := (table .protection s).active
    let found := readNotices (entryAt .protection bank 1 s)
    let listOf := fun set : BitVec 31 => if set = 0 then AuthList.every else .positions set
    let known :=
      match auth with
      | .good img => some (protectionEntry img).positions
      | _ => s.mmb.lastGoodAuth
    let inUse :=
      match auth, known with
      | .empty, _ => AuthList.every
      | _, none => AuthList.every
      | _, some set => listOf set
    let all : Prop := auth = .empty ∨ (∃ img, auth = .good img ∧ (protectionEntry img).positions = 0) ∨
      (auth = .damaged ∧ (s.mmb.lastGoodAuth = none ∨ s.mmb.lastGoodAuth = some 0))
    let listed : Prop := (∃ img, auth = .good img ∧ (protectionEntry img).positions.getLsbD (k - 1) = true) ∨
      (∃ set : BitVec 31, auth = .damaged ∧ s.mmb.lastGoodAuth = some set ∧ set.getLsbD (k - 1) = true)
    let taken : Prop := 1 ≤ k ∧ k ≤ 31 ∧ s.mmb.response = none ∧ s.mmb.outstanding = none ∧ r.eligibleFrom ≤ k
    (k = 255 → exec c s = .next { after with mmb := { s.mmb with eligibleFrom := 1 } }) ∧
    (k = 0 ∨ (31 < k ∧ k < 255) → exec c s = .next after) ∧
    (1 ≤ k → k ≤ 31 → s.mmb.response.isSome = true ∨ s.mmb.outstanding.isSome = true → exec c s = .next after) ∧
    (1 ≤ k → k ≤ 31 → s.mmb.response = none → s.mmb.outstanding = none → k < r.eligibleFrom →
      exec c s = .next { after with mmb := { s.mmb with response := reply .busy } }) ∧
    (taken → kind = 0 ∨ 14 < kind →
      exec c s = .next { after with mmb := { s.mmb with eligibleFrom := next, response := reply .badArgument } }) ∧
    (taken → reading →
      (∀ e, Asks kind r.words e → RunsTo c s fun t =>
        t = { s with
          issued := flightAfter c s [e]
          mmb := { s.mmb with
            eligibleFrom := next, outstanding := some (r.owner, r.tag), reading := t.mmb.reading } } ∧
        (kind = 1 ∨ kind = 12 → t.mmb.reading = none) ∧
        (kind = 5 ∨ kind = 11 → ∃ x, t.mmb.reading = some x ∧ x.event = e ∧
          RunsTo e { s with mmb := { s.mmb with reading := none } } fun u =>
            u.issued = flightAfter e s [.ownerAnswer x.status x.words])) ∧
      ((∀ e, ¬Asks kind r.words e) → exec c s = .next
        { after with mmb := { s.mmb with eligibleFrom := next, response := reply .badArgument } })) ∧
    (taken → 1 ≤ kind → kind ≤ 14 → ¬reading → RunsTo c s fun t =>
      let hands := fun (e : Instr) (held : Option Reading) =>
        t = { s with
          tbs := t.tbs, issued := flightAfter c s (found ++ [e])
          mmb := { s.mmb with
            eligibleFrom := next, authInUse := inUse, lastGoodAuth := known
            outstanding := some (r.owner, r.tag), reading := held } }
      ReadChecks .protection bank 1 s t ∧ (TablesCanonical s → EntriesReadAlike s t) ∧
      (all ∨ listed →
        (∀ e, Asks kind r.words e → hands e none) ∧
        ((∀ e, ¬Asks kind r.words e) → hands (plainAnswer .badArgument) s.mmb.reading)) ∧
      (¬(all ∨ listed) → t = { s with
        tbs := t.tbs, issued := flightAfter c s found
        mmb := { s.mmb with
          eligibleFrom := next, authInUse := inUse, lastGoodAuth := known, response := reply .refusedAuth } }))

/-- An owner's answer becomes the pending response, latch notices and the ring-down announcement latch their cause,
and the three attention requests answer with the latch, the mask and the marker as they then stand. The model's own
choices in it: log 5 (the clear notices are issued before the answer), 17, 38. -/
def Obligations.AnswersAndAttention : Prop :=
  ∀ s : State, s.mainPresent = true →
    let words := fun (latch mask : BitVec 21) =>
      wordsOf [latch.setWidth 32, mask.setWidth 32, if latch &&& mask = 0 then 0 else 1]
    (∀ (status : Status) (w : Words) (owner : Byte) (tag : BitVec 4), s.mmb.outstanding = some (owner, tag) →
      exec (.ownerAnswer status w) s = .next
        { s with
          issued := flightAfter (.ownerAnswer status w) s []
          mmb := { s.mmb with
            outstanding := none, reading := none
            response := some { addressee := owner, tag := tag, status := status, words := w } } }) ∧
    (∀ (status : Status) (w : Words), s.mmb.outstanding = none → exec (.ownerAnswer status w) s = .next
      { s with issued := flightAfter (.ownerAnswer status w) s [] }) ∧
    (RunsTo .mmbRingDown s fun t =>
      t = { s with issued := flightAfter .mmbRingDown s [], mmb := { s.mmb with latch := t.mmb.latch } } ∧
      ∀ i, t.mmb.latch.getLsbD i = (s.mmb.latch.getLsbD i || decide (i = 5))) ∧
    (∀ cause : Cause, RunsTo (.latchNotice cause) s fun t =>
      t = { s with issued := flightAfter (.latchNotice cause) s [], mmb := { s.mmb with latch := t.mmb.latch } } ∧
      ∀ i, t.mmb.latch.getLsbD i = (s.mmb.latch.getLsbD i || decide (i = causeBit cause))) ∧
    exec .attentionRead s = .next
      { s with issued := flightAfter .attentionRead s [.ownerAnswer .done (words s.mmb.latch s.mmb.mask)] } ∧
    ∀ causes : Word,
      let clear := Instr.attentionClear causes
      let mask := Instr.attentionMask causes
      let set : BitVec 21 := causes.setWidth 21
      let left := s.mmb.latch &&& ~~~set
      (causes.toNat < 2 ^ 21 →
        exec clear s = .next
          { s with
            mmb := { s.mmb with latch := left }
            issued := flightAfter clear s
              ((if causes.getLsbD 8 = true then [.frgClearNotice .regSaturated] else []) ++
               (if causes.getLsbD 9 = true then [.frgClearNotice .compositionShortfall] else []) ++
               [.ownerAnswer .done (words left s.mmb.mask)]) } ∧
        exec mask s = .next
          { s with
            mmb := { s.mmb with mask := set }
            issued := flightAfter mask s [.ownerAnswer .done (words s.mmb.latch set)] }) ∧
      (2 ^ 21 ≤ causes.toNat →
        exec clear s = .next (answeredOnly clear .badArgument s) ∧
        exec mask s = .next (answeredOnly mask .badArgument s))
end

