-- ==== Sys2Proof/Laws/State.lean ====
section
/-! SUPPORT. What each named update of the state does to each of its seventeen fields. -/

namespace Sys2Proof.Machine

/-! ### elapse -/

@[simp] theorem elapse_pending (us : Nat) (s : State) : (elapse us s).pending = s.pending := rfl
@[simp] theorem elapse_issued (us : Nat) (s : State) : (elapse us s).issued = s.issued := rfl
@[simp] theorem elapse_now (us : Nat) (s : State) : (elapse us s).now = s.now + us := rfl
@[simp] theorem elapse_mainPresent (us : Nat) (s : State) : (elapse us s).mainPresent = s.mainPresent := rfl
@[simp] theorem elapse_retentionHeld (us : Nat) (s : State) : (elapse us s).retentionHeld = s.retentionHeld := rfl
@[simp] theorem elapse_permissivePin (us : Nat) (s : State) : (elapse us s).permissivePin = s.permissivePin := rfl
@[simp] theorem elapse_rif (us : Nat) (s : State) : (elapse us s).rif = s.rif := rfl
@[simp] theorem elapse_miu (us : Nat) (s : State) : (elapse us s).miu = s.miu := rfl
@[simp] theorem elapse_frg (us : Nat) (s : State) : (elapse us s).frg = s.frg := rfl
@[simp] theorem elapse_tsu (us : Nat) (s : State) : (elapse us s).tsu = s.tsu := rfl
@[simp] theorem elapse_sbu (us : Nat) (s : State) : (elapse us s).sbu = s.sbu := rfl
@[simp] theorem elapse_sdu (us : Nat) (s : State) : (elapse us s).sdu = s.sdu := rfl
@[simp] theorem elapse_fcu (us : Nat) (s : State) : (elapse us s).fcu = s.fcu := rfl
@[simp] theorem elapse_eau (us : Nat) (s : State) : (elapse us s).eau = s.eau := rfl
@[simp] theorem elapse_tbs (us : Nat) (s : State) : (elapse us s).tbs = s.tbs := rfl
@[simp] theorem elapse_mmb (us : Nat) (s : State) : (elapse us s).mmb = s.mmb := rfl

/-! ### issue -/

@[simp] theorem issue_pending (e : Instr) (s : State) : (issue e s).pending = s.pending := rfl
@[simp] theorem issue_issued (e : Instr) (s : State) : (issue e s).issued = s.issued ++ [e] := rfl
@[simp] theorem issue_now (e : Instr) (s : State) : (issue e s).now = s.now := rfl
@[simp] theorem issue_mainPresent (e : Instr) (s : State) : (issue e s).mainPresent = s.mainPresent := rfl
@[simp] theorem issue_retentionHeld (e : Instr) (s : State) : (issue e s).retentionHeld = s.retentionHeld := rfl
@[simp] theorem issue_permissivePin (e : Instr) (s : State) : (issue e s).permissivePin = s.permissivePin := rfl
@[simp] theorem issue_rif (e : Instr) (s : State) : (issue e s).rif = s.rif := rfl
@[simp] theorem issue_miu (e : Instr) (s : State) : (issue e s).miu = s.miu := rfl
@[simp] theorem issue_frg (e : Instr) (s : State) : (issue e s).frg = s.frg := rfl
@[simp] theorem issue_tsu (e : Instr) (s : State) : (issue e s).tsu = s.tsu := rfl
@[simp] theorem issue_sbu (e : Instr) (s : State) : (issue e s).sbu = s.sbu := rfl
@[simp] theorem issue_sdu (e : Instr) (s : State) : (issue e s).sdu = s.sdu := rfl
@[simp] theorem issue_fcu (e : Instr) (s : State) : (issue e s).fcu = s.fcu := rfl
@[simp] theorem issue_eau (e : Instr) (s : State) : (issue e s).eau = s.eau := rfl
@[simp] theorem issue_csu (e : Instr) (s : State) : (issue e s).csu = s.csu := rfl
@[simp] theorem issue_tbs (e : Instr) (s : State) : (issue e s).tbs = s.tbs := rfl
@[simp] theorem issue_mmb (e : Instr) (s : State) : (issue e s).mmb = s.mmb := rfl

/-! ### issueAll -/

@[simp] theorem issueAll_pending (es : List Instr) (s : State) : (issueAll es s).pending = s.pending := rfl
@[simp] theorem issueAll_issued (es : List Instr) (s : State) : (issueAll es s).issued = s.issued ++ es := rfl
@[simp] theorem issueAll_now (es : List Instr) (s : State) : (issueAll es s).now = s.now := rfl
@[simp] theorem issueAll_mainPresent (es : List Instr) (s : State) : (issueAll es s).mainPresent = s.mainPresent := rfl
@[simp] theorem issueAll_retentionHeld (es : List Instr) (s : State) : (issueAll es s).retentionHeld = s.retentionHeld := rfl
@[simp] theorem issueAll_permissivePin (es : List Instr) (s : State) : (issueAll es s).permissivePin = s.permissivePin := rfl
@[simp] theorem issueAll_rif (es : List Instr) (s : State) : (issueAll es s).rif = s.rif := rfl
@[simp] theorem issueAll_miu (es : List Instr) (s : State) : (issueAll es s).miu = s.miu := rfl
@[simp] theorem issueAll_frg (es : List Instr) (s : State) : (issueAll es s).frg = s.frg := rfl
@[simp] theorem issueAll_tsu (es : List Instr) (s : State) : (issueAll es s).tsu = s.tsu := rfl
@[simp] theorem issueAll_sbu (es : List Instr) (s : State) : (issueAll es s).sbu = s.sbu := rfl
@[simp] theorem issueAll_sdu (es : List Instr) (s : State) : (issueAll es s).sdu = s.sdu := rfl
@[simp] theorem issueAll_fcu (es : List Instr) (s : State) : (issueAll es s).fcu = s.fcu := rfl
@[simp] theorem issueAll_eau (es : List Instr) (s : State) : (issueAll es s).eau = s.eau := rfl
@[simp] theorem issueAll_csu (es : List Instr) (s : State) : (issueAll es s).csu = s.csu := rfl
@[simp] theorem issueAll_tbs (es : List Instr) (s : State) : (issueAll es s).tbs = s.tbs := rfl
@[simp] theorem issueAll_mmb (es : List Instr) (s : State) : (issueAll es s).mmb = s.mmb := rfl

/-! ### take -/

@[simp] theorem take_pending (e : Instr) (s : State) : (take e s).pending = s.pending := rfl
@[simp] theorem take_issued (e : Instr) (s : State) : (take e s).issued = s.issued.erase e := rfl
@[simp] theorem take_now (e : Instr) (s : State) : (take e s).now = s.now := rfl
@[simp] theorem take_mainPresent (e : Instr) (s : State) : (take e s).mainPresent = s.mainPresent := rfl
@[simp] theorem take_retentionHeld (e : Instr) (s : State) : (take e s).retentionHeld = s.retentionHeld := rfl
@[simp] theorem take_permissivePin (e : Instr) (s : State) : (take e s).permissivePin = s.permissivePin := rfl
@[simp] theorem take_rif (e : Instr) (s : State) : (take e s).rif = s.rif := rfl
@[simp] theorem take_miu (e : Instr) (s : State) : (take e s).miu = s.miu := rfl
@[simp] theorem take_frg (e : Instr) (s : State) : (take e s).frg = s.frg := rfl
@[simp] theorem take_tsu (e : Instr) (s : State) : (take e s).tsu = s.tsu := rfl
@[simp] theorem take_sbu (e : Instr) (s : State) : (take e s).sbu = s.sbu := rfl
@[simp] theorem take_sdu (e : Instr) (s : State) : (take e s).sdu = s.sdu := rfl
@[simp] theorem take_fcu (e : Instr) (s : State) : (take e s).fcu = s.fcu := rfl
@[simp] theorem take_eau (e : Instr) (s : State) : (take e s).eau = s.eau := rfl
@[simp] theorem take_csu (e : Instr) (s : State) : (take e s).csu = s.csu := rfl
@[simp] theorem take_tbs (e : Instr) (s : State) : (take e s).tbs = s.tbs := rfl
@[simp] theorem take_mmb (e : Instr) (s : State) : (take e s).mmb = s.mmb := rfl

/-! ### latch -/

@[simp] theorem latch_pending (c : Cause) (s : State) : (latch c s).pending = s.pending := rfl
@[simp] theorem latch_issued (c : Cause) (s : State) : (latch c s).issued = s.issued ++ [.latchNotice c] := rfl
@[simp] theorem latch_now (c : Cause) (s : State) : (latch c s).now = s.now := rfl
@[simp] theorem latch_mainPresent (c : Cause) (s : State) : (latch c s).mainPresent = s.mainPresent := rfl
@[simp] theorem latch_retentionHeld (c : Cause) (s : State) : (latch c s).retentionHeld = s.retentionHeld := rfl
@[simp] theorem latch_permissivePin (c : Cause) (s : State) : (latch c s).permissivePin = s.permissivePin := rfl
@[simp] theorem latch_rif (c : Cause) (s : State) : (latch c s).rif = s.rif := rfl
@[simp] theorem latch_miu (c : Cause) (s : State) : (latch c s).miu = s.miu := rfl
@[simp] theorem latch_frg (c : Cause) (s : State) : (latch c s).frg = s.frg := rfl
@[simp] theorem latch_tsu (c : Cause) (s : State) : (latch c s).tsu = s.tsu := rfl
@[simp] theorem latch_sbu (c : Cause) (s : State) : (latch c s).sbu = s.sbu := rfl
@[simp] theorem latch_sdu (c : Cause) (s : State) : (latch c s).sdu = s.sdu := rfl
@[simp] theorem latch_fcu (c : Cause) (s : State) : (latch c s).fcu = s.fcu := rfl
@[simp] theorem latch_eau (c : Cause) (s : State) : (latch c s).eau = s.eau := rfl
@[simp] theorem latch_csu (c : Cause) (s : State) : (latch c s).csu = s.csu := rfl
@[simp] theorem latch_tbs (c : Cause) (s : State) : (latch c s).tbs = s.tbs := rfl
@[simp] theorem latch_mmb (c : Cause) (s : State) : (latch c s).mmb = s.mmb := rfl

/-! ### answer -/

@[simp] theorem answer_pending (r : Status) (w : List Word) (s : State) : (answer r w s).pending = s.pending := rfl
@[simp] theorem answer_issued (r : Status) (w : List Word) (s : State) : (answer r w s).issued = s.issued ++ [.ownerAnswer r (wordsOf w)] := rfl
@[simp] theorem answer_now (r : Status) (w : List Word) (s : State) : (answer r w s).now = s.now := rfl
@[simp] theorem answer_mainPresent (r : Status) (w : List Word) (s : State) : (answer r w s).mainPresent = s.mainPresent := rfl
@[simp] theorem answer_retentionHeld (r : Status) (w : List Word) (s : State) : (answer r w s).retentionHeld = s.retentionHeld := rfl
@[simp] theorem answer_permissivePin (r : Status) (w : List Word) (s : State) : (answer r w s).permissivePin = s.permissivePin := rfl
@[simp] theorem answer_rif (r : Status) (w : List Word) (s : State) : (answer r w s).rif = s.rif := rfl
@[simp] theorem answer_miu (r : Status) (w : List Word) (s : State) : (answer r w s).miu = s.miu := rfl
@[simp] theorem answer_frg (r : Status) (w : List Word) (s : State) : (answer r w s).frg = s.frg := rfl
@[simp] theorem answer_tsu (r : Status) (w : List Word) (s : State) : (answer r w s).tsu = s.tsu := rfl
@[simp] theorem answer_sbu (r : Status) (w : List Word) (s : State) : (answer r w s).sbu = s.sbu := rfl
@[simp] theorem answer_sdu (r : Status) (w : List Word) (s : State) : (answer r w s).sdu = s.sdu := rfl
@[simp] theorem answer_fcu (r : Status) (w : List Word) (s : State) : (answer r w s).fcu = s.fcu := rfl
@[simp] theorem answer_eau (r : Status) (w : List Word) (s : State) : (answer r w s).eau = s.eau := rfl
@[simp] theorem answer_csu (r : Status) (w : List Word) (s : State) : (answer r w s).csu = s.csu := rfl
@[simp] theorem answer_tbs (r : Status) (w : List Word) (s : State) : (answer r w s).tbs = s.tbs := rfl
@[simp] theorem answer_mmb (r : Status) (w : List Word) (s : State) : (answer r w s).mmb = s.mmb := rfl

/-! ### setTable -/

@[simp] theorem setTable_pending (t : TableId) (x : TableStore) (s : State) : (setTable t x s).pending = s.pending := rfl
@[simp] theorem setTable_issued (t : TableId) (x : TableStore) (s : State) : (setTable t x s).issued = s.issued := rfl
@[simp] theorem setTable_now (t : TableId) (x : TableStore) (s : State) : (setTable t x s).now = s.now := rfl
@[simp] theorem setTable_mainPresent (t : TableId) (x : TableStore) (s : State) : (setTable t x s).mainPresent = s.mainPresent := rfl
@[simp] theorem setTable_retentionHeld (t : TableId) (x : TableStore) (s : State) : (setTable t x s).retentionHeld = s.retentionHeld := rfl
@[simp] theorem setTable_permissivePin (t : TableId) (x : TableStore) (s : State) : (setTable t x s).permissivePin = s.permissivePin := rfl
@[simp] theorem setTable_rif (t : TableId) (x : TableStore) (s : State) : (setTable t x s).rif = s.rif := rfl
@[simp] theorem setTable_miu (t : TableId) (x : TableStore) (s : State) : (setTable t x s).miu = s.miu := rfl
@[simp] theorem setTable_frg (t : TableId) (x : TableStore) (s : State) : (setTable t x s).frg = s.frg := rfl
@[simp] theorem setTable_tsu (t : TableId) (x : TableStore) (s : State) : (setTable t x s).tsu = s.tsu := rfl
@[simp] theorem setTable_sbu (t : TableId) (x : TableStore) (s : State) : (setTable t x s).sbu = s.sbu := rfl
@[simp] theorem setTable_sdu (t : TableId) (x : TableStore) (s : State) : (setTable t x s).sdu = s.sdu := rfl
@[simp] theorem setTable_fcu (t : TableId) (x : TableStore) (s : State) : (setTable t x s).fcu = s.fcu := rfl
@[simp] theorem setTable_eau (t : TableId) (x : TableStore) (s : State) : (setTable t x s).eau = s.eau := rfl
@[simp] theorem setTable_csu (t : TableId) (x : TableStore) (s : State) : (setTable t x s).csu = s.csu := rfl
@[simp] theorem setTable_tbs (t : TableId) (x : TableStore) (s : State) : (setTable t x s).tbs = { s.tbs with tables := s.tbs.tables.set (tableIndex t) x } := rfl
@[simp] theorem setTable_mmb (t : TableId) (x : TableStore) (s : State) : (setTable t x s).mmb = s.mmb := rfl

/-! ### storeEntry -/

@[simp] theorem storeEntry_pending (t : TableId) (b : Bank) (i : Nat) (e : Option Stored) (s : State) : (storeEntry t b i e s).pending = s.pending := rfl
@[simp] theorem storeEntry_issued (t : TableId) (b : Bank) (i : Nat) (e : Option Stored) (s : State) : (storeEntry t b i e s).issued = s.issued := rfl
@[simp] theorem storeEntry_now (t : TableId) (b : Bank) (i : Nat) (e : Option Stored) (s : State) : (storeEntry t b i e s).now = s.now := rfl
@[simp] theorem storeEntry_mainPresent (t : TableId) (b : Bank) (i : Nat) (e : Option Stored) (s : State) : (storeEntry t b i e s).mainPresent = s.mainPresent := rfl
@[simp] theorem storeEntry_retentionHeld (t : TableId) (b : Bank) (i : Nat) (e : Option Stored) (s : State) : (storeEntry t b i e s).retentionHeld = s.retentionHeld := rfl
@[simp] theorem storeEntry_permissivePin (t : TableId) (b : Bank) (i : Nat) (e : Option Stored) (s : State) : (storeEntry t b i e s).permissivePin = s.permissivePin := rfl
@[simp] theorem storeEntry_rif (t : TableId) (b : Bank) (i : Nat) (e : Option Stored) (s : State) : (storeEntry t b i e s).rif = s.rif := rfl
@[simp] theorem storeEntry_miu (t : TableId) (b : Bank) (i : Nat) (e : Option Stored) (s : State) : (storeEntry t b i e s).miu = s.miu := rfl
@[simp] theorem storeEntry_frg (t : TableId) (b : Bank) (i : Nat) (e : Option Stored) (s : State) : (storeEntry t b i e s).frg = s.frg := rfl
@[simp] theorem storeEntry_tsu (t : TableId) (b : Bank) (i : Nat) (e : Option Stored) (s : State) : (storeEntry t b i e s).tsu = s.tsu := rfl
@[simp] theorem storeEntry_sbu (t : TableId) (b : Bank) (i : Nat) (e : Option Stored) (s : State) : (storeEntry t b i e s).sbu = s.sbu := rfl
@[simp] theorem storeEntry_sdu (t : TableId) (b : Bank) (i : Nat) (e : Option Stored) (s : State) : (storeEntry t b i e s).sdu = s.sdu := rfl
@[simp] theorem storeEntry_fcu (t : TableId) (b : Bank) (i : Nat) (e : Option Stored) (s : State) : (storeEntry t b i e s).fcu = s.fcu := rfl
@[simp] theorem storeEntry_eau (t : TableId) (b : Bank) (i : Nat) (e : Option Stored) (s : State) : (storeEntry t b i e s).eau = s.eau := rfl
@[simp] theorem storeEntry_csu (t : TableId) (b : Bank) (i : Nat) (e : Option Stored) (s : State) : (storeEntry t b i e s).csu = s.csu := rfl
@[simp] theorem storeEntry_mmb (t : TableId) (b : Bank) (i : Nat) (e : Option Stored) (s : State) : (storeEntry t b i e s).mmb = s.mmb := rfl

/-! ### takeSwap -/

@[simp] theorem takeSwap_pending (t : TableId) (s : State) : (takeSwap t s).pending = s.pending := rfl
@[simp] theorem takeSwap_issued (t : TableId) (s : State) : (takeSwap t s).issued = s.issued := rfl
@[simp] theorem takeSwap_now (t : TableId) (s : State) : (takeSwap t s).now = s.now := rfl
@[simp] theorem takeSwap_mainPresent (t : TableId) (s : State) : (takeSwap t s).mainPresent = s.mainPresent := rfl
@[simp] theorem takeSwap_retentionHeld (t : TableId) (s : State) : (takeSwap t s).retentionHeld = s.retentionHeld := rfl
@[simp] theorem takeSwap_permissivePin (t : TableId) (s : State) : (takeSwap t s).permissivePin = s.permissivePin := rfl
@[simp] theorem takeSwap_rif (t : TableId) (s : State) : (takeSwap t s).rif = s.rif := rfl
@[simp] theorem takeSwap_miu (t : TableId) (s : State) : (takeSwap t s).miu = s.miu := rfl
@[simp] theorem takeSwap_frg (t : TableId) (s : State) : (takeSwap t s).frg = s.frg := rfl
@[simp] theorem takeSwap_tsu (t : TableId) (s : State) : (takeSwap t s).tsu = s.tsu := rfl
@[simp] theorem takeSwap_sbu (t : TableId) (s : State) : (takeSwap t s).sbu = s.sbu := rfl
@[simp] theorem takeSwap_sdu (t : TableId) (s : State) : (takeSwap t s).sdu = s.sdu := rfl
@[simp] theorem takeSwap_fcu (t : TableId) (s : State) : (takeSwap t s).fcu = s.fcu := rfl
@[simp] theorem takeSwap_eau (t : TableId) (s : State) : (takeSwap t s).eau = s.eau := rfl
@[simp] theorem takeSwap_csu (t : TableId) (s : State) : (takeSwap t s).csu = s.csu := rfl
@[simp] theorem takeSwap_mmb (t : TableId) (s : State) : (takeSwap t s).mmb = s.mmb := rfl

/-! ### updHolding -/

@[simp] theorem updHolding_pending (f : Holding → Holding) (s : State) : (updHolding f s).pending = s.pending := rfl
@[simp] theorem updHolding_issued (f : Holding → Holding) (s : State) : (updHolding f s).issued = s.issued := rfl
@[simp] theorem updHolding_now (f : Holding → Holding) (s : State) : (updHolding f s).now = s.now := rfl
@[simp] theorem updHolding_mainPresent (f : Holding → Holding) (s : State) : (updHolding f s).mainPresent = s.mainPresent := rfl
@[simp] theorem updHolding_retentionHeld (f : Holding → Holding) (s : State) : (updHolding f s).retentionHeld = s.retentionHeld := rfl
@[simp] theorem updHolding_permissivePin (f : Holding → Holding) (s : State) : (updHolding f s).permissivePin = s.permissivePin := rfl
@[simp] theorem updHolding_rif (f : Holding → Holding) (s : State) : (updHolding f s).rif = { s.rif with holding := f s.rif.holding } := rfl
@[simp] theorem updHolding_miu (f : Holding → Holding) (s : State) : (updHolding f s).miu = s.miu := rfl
@[simp] theorem updHolding_frg (f : Holding → Holding) (s : State) : (updHolding f s).frg = s.frg := rfl
@[simp] theorem updHolding_tsu (f : Holding → Holding) (s : State) : (updHolding f s).tsu = s.tsu := rfl
@[simp] theorem updHolding_sbu (f : Holding → Holding) (s : State) : (updHolding f s).sbu = s.sbu := rfl
@[simp] theorem updHolding_sdu (f : Holding → Holding) (s : State) : (updHolding f s).sdu = s.sdu := rfl
@[simp] theorem updHolding_fcu (f : Holding → Holding) (s : State) : (updHolding f s).fcu = s.fcu := rfl
@[simp] theorem updHolding_eau (f : Holding → Holding) (s : State) : (updHolding f s).eau = s.eau := rfl
@[simp] theorem updHolding_csu (f : Holding → Holding) (s : State) : (updHolding f s).csu = s.csu := rfl
@[simp] theorem updHolding_tbs (f : Holding → Holding) (s : State) : (updHolding f s).tbs = s.tbs := rfl
@[simp] theorem updHolding_mmb (f : Holding → Holding) (s : State) : (updHolding f s).mmb = s.mmb := rfl

/-! ### setFeeder -/

@[simp] theorem setFeeder_pending (n : Feeder) (r : FeederRecord) (s : State) : (setFeeder n r s).pending = s.pending := rfl
@[simp] theorem setFeeder_issued (n : Feeder) (r : FeederRecord) (s : State) : (setFeeder n r s).issued = s.issued := rfl
@[simp] theorem setFeeder_now (n : Feeder) (r : FeederRecord) (s : State) : (setFeeder n r s).now = s.now := rfl
@[simp] theorem setFeeder_mainPresent (n : Feeder) (r : FeederRecord) (s : State) : (setFeeder n r s).mainPresent = s.mainPresent := rfl
@[simp] theorem setFeeder_retentionHeld (n : Feeder) (r : FeederRecord) (s : State) : (setFeeder n r s).retentionHeld = s.retentionHeld := rfl
@[simp] theorem setFeeder_permissivePin (n : Feeder) (r : FeederRecord) (s : State) : (setFeeder n r s).permissivePin = s.permissivePin := rfl
@[simp] theorem setFeeder_rif (n : Feeder) (r : FeederRecord) (s : State) : (setFeeder n r s).rif = s.rif := rfl
@[simp] theorem setFeeder_miu (n : Feeder) (r : FeederRecord) (s : State) : (setFeeder n r s).miu = s.miu := rfl
@[simp] theorem setFeeder_frg (n : Feeder) (r : FeederRecord) (s : State) : (setFeeder n r s).frg = s.frg := rfl
@[simp] theorem setFeeder_tsu (n : Feeder) (r : FeederRecord) (s : State) : (setFeeder n r s).tsu = s.tsu := rfl
@[simp] theorem setFeeder_sbu (n : Feeder) (r : FeederRecord) (s : State) : (setFeeder n r s).sbu = s.sbu := rfl
@[simp] theorem setFeeder_sdu (n : Feeder) (r : FeederRecord) (s : State) : (setFeeder n r s).sdu = s.sdu := rfl
@[simp] theorem setFeeder_fcu (n : Feeder) (r : FeederRecord) (s : State) : (setFeeder n r s).fcu = { s.fcu with feeders := s.fcu.feeders.set n r } := rfl
@[simp] theorem setFeeder_eau (n : Feeder) (r : FeederRecord) (s : State) : (setFeeder n r s).eau = s.eau := rfl
@[simp] theorem setFeeder_csu (n : Feeder) (r : FeederRecord) (s : State) : (setFeeder n r s).csu = s.csu := rfl
@[simp] theorem setFeeder_tbs (n : Feeder) (r : FeederRecord) (s : State) : (setFeeder n r s).tbs = s.tbs := rfl
@[simp] theorem setFeeder_mmb (n : Feeder) (r : FeederRecord) (s : State) : (setFeeder n r s).mmb = s.mmb := rfl

/-! ### updShaft -/

@[simp] theorem updShaft_pending (f : Shaft → Shaft) (s : State) : (updShaft f s).pending = s.pending := rfl
@[simp] theorem updShaft_issued (f : Shaft → Shaft) (s : State) : (updShaft f s).issued = s.issued := rfl
@[simp] theorem updShaft_now (f : Shaft → Shaft) (s : State) : (updShaft f s).now = s.now := rfl
@[simp] theorem updShaft_mainPresent (f : Shaft → Shaft) (s : State) : (updShaft f s).mainPresent = s.mainPresent := rfl
@[simp] theorem updShaft_retentionHeld (f : Shaft → Shaft) (s : State) : (updShaft f s).retentionHeld = s.retentionHeld := rfl
@[simp] theorem updShaft_permissivePin (f : Shaft → Shaft) (s : State) : (updShaft f s).permissivePin = s.permissivePin := rfl
@[simp] theorem updShaft_rif (f : Shaft → Shaft) (s : State) : (updShaft f s).rif = s.rif := rfl
@[simp] theorem updShaft_miu (f : Shaft → Shaft) (s : State) : (updShaft f s).miu = { s.miu with shaft := f s.miu.shaft } := rfl
@[simp] theorem updShaft_frg (f : Shaft → Shaft) (s : State) : (updShaft f s).frg = s.frg := rfl
@[simp] theorem updShaft_tsu (f : Shaft → Shaft) (s : State) : (updShaft f s).tsu = s.tsu := rfl
@[simp] theorem updShaft_sbu (f : Shaft → Shaft) (s : State) : (updShaft f s).sbu = s.sbu := rfl
@[simp] theorem updShaft_sdu (f : Shaft → Shaft) (s : State) : (updShaft f s).sdu = s.sdu := rfl
@[simp] theorem updShaft_fcu (f : Shaft → Shaft) (s : State) : (updShaft f s).fcu = s.fcu := rfl
@[simp] theorem updShaft_eau (f : Shaft → Shaft) (s : State) : (updShaft f s).eau = s.eau := rfl
@[simp] theorem updShaft_csu (f : Shaft → Shaft) (s : State) : (updShaft f s).csu = s.csu := rfl
@[simp] theorem updShaft_tbs (f : Shaft → Shaft) (s : State) : (updShaft f s).tbs = s.tbs := rfl
@[simp] theorem updShaft_mmb (f : Shaft → Shaft) (s : State) : (updShaft f s).mmb = s.mmb := rfl

/-! ### updFrg -/

@[simp] theorem updFrg_pending (f : Frg → Frg) (s : State) : (updFrg f s).pending = s.pending := rfl
@[simp] theorem updFrg_issued (f : Frg → Frg) (s : State) : (updFrg f s).issued = s.issued := rfl
@[simp] theorem updFrg_now (f : Frg → Frg) (s : State) : (updFrg f s).now = s.now := rfl
@[simp] theorem updFrg_mainPresent (f : Frg → Frg) (s : State) : (updFrg f s).mainPresent = s.mainPresent := rfl
@[simp] theorem updFrg_retentionHeld (f : Frg → Frg) (s : State) : (updFrg f s).retentionHeld = s.retentionHeld := rfl
@[simp] theorem updFrg_permissivePin (f : Frg → Frg) (s : State) : (updFrg f s).permissivePin = s.permissivePin := rfl
@[simp] theorem updFrg_rif (f : Frg → Frg) (s : State) : (updFrg f s).rif = s.rif := rfl
@[simp] theorem updFrg_miu (f : Frg → Frg) (s : State) : (updFrg f s).miu = s.miu := rfl
@[simp] theorem updFrg_frg (f : Frg → Frg) (s : State) : (updFrg f s).frg = f s.frg := rfl
@[simp] theorem updFrg_tsu (f : Frg → Frg) (s : State) : (updFrg f s).tsu = s.tsu := rfl
@[simp] theorem updFrg_sbu (f : Frg → Frg) (s : State) : (updFrg f s).sbu = s.sbu := rfl
@[simp] theorem updFrg_sdu (f : Frg → Frg) (s : State) : (updFrg f s).sdu = s.sdu := rfl
@[simp] theorem updFrg_fcu (f : Frg → Frg) (s : State) : (updFrg f s).fcu = s.fcu := rfl
@[simp] theorem updFrg_eau (f : Frg → Frg) (s : State) : (updFrg f s).eau = s.eau := rfl
@[simp] theorem updFrg_csu (f : Frg → Frg) (s : State) : (updFrg f s).csu = s.csu := rfl
@[simp] theorem updFrg_tbs (f : Frg → Frg) (s : State) : (updFrg f s).tbs = s.tbs := rfl
@[simp] theorem updFrg_mmb (f : Frg → Frg) (s : State) : (updFrg f s).mmb = s.mmb := rfl

/-! ### updTsu -/

@[simp] theorem updTsu_pending (f : Tsu → Tsu) (s : State) : (updTsu f s).pending = s.pending := rfl
@[simp] theorem updTsu_issued (f : Tsu → Tsu) (s : State) : (updTsu f s).issued = s.issued := rfl
@[simp] theorem updTsu_now (f : Tsu → Tsu) (s : State) : (updTsu f s).now = s.now := rfl
@[simp] theorem updTsu_mainPresent (f : Tsu → Tsu) (s : State) : (updTsu f s).mainPresent = s.mainPresent := rfl
@[simp] theorem updTsu_retentionHeld (f : Tsu → Tsu) (s : State) : (updTsu f s).retentionHeld = s.retentionHeld := rfl
@[simp] theorem updTsu_permissivePin (f : Tsu → Tsu) (s : State) : (updTsu f s).permissivePin = s.permissivePin := rfl
@[simp] theorem updTsu_rif (f : Tsu → Tsu) (s : State) : (updTsu f s).rif = s.rif := rfl
@[simp] theorem updTsu_miu (f : Tsu → Tsu) (s : State) : (updTsu f s).miu = s.miu := rfl
@[simp] theorem updTsu_frg (f : Tsu → Tsu) (s : State) : (updTsu f s).frg = s.frg := rfl
@[simp] theorem updTsu_tsu (f : Tsu → Tsu) (s : State) : (updTsu f s).tsu = f s.tsu := rfl
@[simp] theorem updTsu_sbu (f : Tsu → Tsu) (s : State) : (updTsu f s).sbu = s.sbu := rfl
@[simp] theorem updTsu_sdu (f : Tsu → Tsu) (s : State) : (updTsu f s).sdu = s.sdu := rfl
@[simp] theorem updTsu_fcu (f : Tsu → Tsu) (s : State) : (updTsu f s).fcu = s.fcu := rfl
@[simp] theorem updTsu_eau (f : Tsu → Tsu) (s : State) : (updTsu f s).eau = s.eau := rfl
@[simp] theorem updTsu_csu (f : Tsu → Tsu) (s : State) : (updTsu f s).csu = s.csu := rfl
@[simp] theorem updTsu_tbs (f : Tsu → Tsu) (s : State) : (updTsu f s).tbs = s.tbs := rfl
@[simp] theorem updTsu_mmb (f : Tsu → Tsu) (s : State) : (updTsu f s).mmb = s.mmb := rfl

/-! ### updSbu -/

@[simp] theorem updSbu_pending (f : Sbu → Sbu) (s : State) : (updSbu f s).pending = s.pending := rfl
@[simp] theorem updSbu_issued (f : Sbu → Sbu) (s : State) : (updSbu f s).issued = s.issued := rfl
@[simp] theorem updSbu_now (f : Sbu → Sbu) (s : State) : (updSbu f s).now = s.now := rfl
@[simp] theorem updSbu_mainPresent (f : Sbu → Sbu) (s : State) : (updSbu f s).mainPresent = s.mainPresent := rfl
@[simp] theorem updSbu_retentionHeld (f : Sbu → Sbu) (s : State) : (updSbu f s).retentionHeld = s.retentionHeld := rfl
@[simp] theorem updSbu_permissivePin (f : Sbu → Sbu) (s : State) : (updSbu f s).permissivePin = s.permissivePin := rfl
@[simp] theorem updSbu_rif (f : Sbu → Sbu) (s : State) : (updSbu f s).rif = s.rif := rfl
@[simp] theorem updSbu_miu (f : Sbu → Sbu) (s : State) : (updSbu f s).miu = s.miu := rfl
@[simp] theorem updSbu_frg (f : Sbu → Sbu) (s : State) : (updSbu f s).frg = s.frg := rfl
@[simp] theorem updSbu_tsu (f : Sbu → Sbu) (s : State) : (updSbu f s).tsu = s.tsu := rfl
@[simp] theorem updSbu_sbu (f : Sbu → Sbu) (s : State) : (updSbu f s).sbu = f s.sbu := rfl
@[simp] theorem updSbu_sdu (f : Sbu → Sbu) (s : State) : (updSbu f s).sdu = s.sdu := rfl
@[simp] theorem updSbu_fcu (f : Sbu → Sbu) (s : State) : (updSbu f s).fcu = s.fcu := rfl
@[simp] theorem updSbu_eau (f : Sbu → Sbu) (s : State) : (updSbu f s).eau = s.eau := rfl
@[simp] theorem updSbu_csu (f : Sbu → Sbu) (s : State) : (updSbu f s).csu = s.csu := rfl
@[simp] theorem updSbu_tbs (f : Sbu → Sbu) (s : State) : (updSbu f s).tbs = s.tbs := rfl
@[simp] theorem updSbu_mmb (f : Sbu → Sbu) (s : State) : (updSbu f s).mmb = s.mmb := rfl

/-! ### updSdu -/

@[simp] theorem updSdu_pending (f : Sdu → Sdu) (s : State) : (updSdu f s).pending = s.pending := rfl
@[simp] theorem updSdu_issued (f : Sdu → Sdu) (s : State) : (updSdu f s).issued = s.issued := rfl
@[simp] theorem updSdu_now (f : Sdu → Sdu) (s : State) : (updSdu f s).now = s.now := rfl
@[simp] theorem updSdu_mainPresent (f : Sdu → Sdu) (s : State) : (updSdu f s).mainPresent = s.mainPresent := rfl
@[simp] theorem updSdu_retentionHeld (f : Sdu → Sdu) (s : State) : (updSdu f s).retentionHeld = s.retentionHeld := rfl
@[simp] theorem updSdu_permissivePin (f : Sdu → Sdu) (s : State) : (updSdu f s).permissivePin = s.permissivePin := rfl
@[simp] theorem updSdu_rif (f : Sdu → Sdu) (s : State) : (updSdu f s).rif = s.rif := rfl
@[simp] theorem updSdu_miu (f : Sdu → Sdu) (s : State) : (updSdu f s).miu = s.miu := rfl
@[simp] theorem updSdu_frg (f : Sdu → Sdu) (s : State) : (updSdu f s).frg = s.frg := rfl
@[simp] theorem updSdu_tsu (f : Sdu → Sdu) (s : State) : (updSdu f s).tsu = s.tsu := rfl
@[simp] theorem updSdu_sbu (f : Sdu → Sdu) (s : State) : (updSdu f s).sbu = s.sbu := rfl
@[simp] theorem updSdu_sdu (f : Sdu → Sdu) (s : State) : (updSdu f s).sdu = f s.sdu := rfl
@[simp] theorem updSdu_fcu (f : Sdu → Sdu) (s : State) : (updSdu f s).fcu = s.fcu := rfl
@[simp] theorem updSdu_eau (f : Sdu → Sdu) (s : State) : (updSdu f s).eau = s.eau := rfl
@[simp] theorem updSdu_csu (f : Sdu → Sdu) (s : State) : (updSdu f s).csu = s.csu := rfl
@[simp] theorem updSdu_tbs (f : Sdu → Sdu) (s : State) : (updSdu f s).tbs = s.tbs := rfl
@[simp] theorem updSdu_mmb (f : Sdu → Sdu) (s : State) : (updSdu f s).mmb = s.mmb := rfl

/-! ### updEau -/

@[simp] theorem updEau_pending (f : Eau → Eau) (s : State) : (updEau f s).pending = s.pending := rfl
@[simp] theorem updEau_issued (f : Eau → Eau) (s : State) : (updEau f s).issued = s.issued := rfl
@[simp] theorem updEau_now (f : Eau → Eau) (s : State) : (updEau f s).now = s.now := rfl
@[simp] theorem updEau_mainPresent (f : Eau → Eau) (s : State) : (updEau f s).mainPresent = s.mainPresent := rfl
@[simp] theorem updEau_retentionHeld (f : Eau → Eau) (s : State) : (updEau f s).retentionHeld = s.retentionHeld := rfl
@[simp] theorem updEau_permissivePin (f : Eau → Eau) (s : State) : (updEau f s).permissivePin = s.permissivePin := rfl
@[simp] theorem updEau_rif (f : Eau → Eau) (s : State) : (updEau f s).rif = s.rif := rfl
@[simp] theorem updEau_miu (f : Eau → Eau) (s : State) : (updEau f s).miu = s.miu := rfl
@[simp] theorem updEau_frg (f : Eau → Eau) (s : State) : (updEau f s).frg = s.frg := rfl
@[simp] theorem updEau_tsu (f : Eau → Eau) (s : State) : (updEau f s).tsu = s.tsu := rfl
@[simp] theorem updEau_sbu (f : Eau → Eau) (s : State) : (updEau f s).sbu = s.sbu := rfl
@[simp] theorem updEau_sdu (f : Eau → Eau) (s : State) : (updEau f s).sdu = s.sdu := rfl
@[simp] theorem updEau_fcu (f : Eau → Eau) (s : State) : (updEau f s).fcu = s.fcu := rfl
@[simp] theorem updEau_eau (f : Eau → Eau) (s : State) : (updEau f s).eau = f s.eau := rfl
@[simp] theorem updEau_csu (f : Eau → Eau) (s : State) : (updEau f s).csu = s.csu := rfl
@[simp] theorem updEau_tbs (f : Eau → Eau) (s : State) : (updEau f s).tbs = s.tbs := rfl
@[simp] theorem updEau_mmb (f : Eau → Eau) (s : State) : (updEau f s).mmb = s.mmb := rfl

/-! ### updCsu -/

@[simp] theorem updCsu_pending (f : Csu → Csu) (s : State) : (updCsu f s).pending = s.pending := rfl
@[simp] theorem updCsu_issued (f : Csu → Csu) (s : State) : (updCsu f s).issued = s.issued := rfl
@[simp] theorem updCsu_now (f : Csu → Csu) (s : State) : (updCsu f s).now = s.now := rfl
@[simp] theorem updCsu_mainPresent (f : Csu → Csu) (s : State) : (updCsu f s).mainPresent = s.mainPresent := rfl
@[simp] theorem updCsu_retentionHeld (f : Csu → Csu) (s : State) : (updCsu f s).retentionHeld = s.retentionHeld := rfl
@[simp] theorem updCsu_permissivePin (f : Csu → Csu) (s : State) : (updCsu f s).permissivePin = s.permissivePin := rfl
@[simp] theorem updCsu_rif (f : Csu → Csu) (s : State) : (updCsu f s).rif = s.rif := rfl
@[simp] theorem updCsu_miu (f : Csu → Csu) (s : State) : (updCsu f s).miu = s.miu := rfl
@[simp] theorem updCsu_frg (f : Csu → Csu) (s : State) : (updCsu f s).frg = s.frg := rfl
@[simp] theorem updCsu_tsu (f : Csu → Csu) (s : State) : (updCsu f s).tsu = s.tsu := rfl
@[simp] theorem updCsu_sbu (f : Csu → Csu) (s : State) : (updCsu f s).sbu = s.sbu := rfl
@[simp] theorem updCsu_sdu (f : Csu → Csu) (s : State) : (updCsu f s).sdu = s.sdu := rfl
@[simp] theorem updCsu_fcu (f : Csu → Csu) (s : State) : (updCsu f s).fcu = s.fcu := rfl
@[simp] theorem updCsu_eau (f : Csu → Csu) (s : State) : (updCsu f s).eau = s.eau := rfl
@[simp] theorem updCsu_csu (f : Csu → Csu) (s : State) : (updCsu f s).csu = f s.csu := rfl
@[simp] theorem updCsu_tbs (f : Csu → Csu) (s : State) : (updCsu f s).tbs = s.tbs := rfl
@[simp] theorem updCsu_mmb (f : Csu → Csu) (s : State) : (updCsu f s).mmb = s.mmb := rfl

/-! ### updMmb -/

@[simp] theorem updMmb_pending (f : Mmb → Mmb) (s : State) : (updMmb f s).pending = s.pending := rfl
@[simp] theorem updMmb_issued (f : Mmb → Mmb) (s : State) : (updMmb f s).issued = s.issued := rfl
@[simp] theorem updMmb_now (f : Mmb → Mmb) (s : State) : (updMmb f s).now = s.now := rfl
@[simp] theorem updMmb_mainPresent (f : Mmb → Mmb) (s : State) : (updMmb f s).mainPresent = s.mainPresent := rfl
@[simp] theorem updMmb_retentionHeld (f : Mmb → Mmb) (s : State) : (updMmb f s).retentionHeld = s.retentionHeld := rfl
@[simp] theorem updMmb_permissivePin (f : Mmb → Mmb) (s : State) : (updMmb f s).permissivePin = s.permissivePin := rfl
@[simp] theorem updMmb_rif (f : Mmb → Mmb) (s : State) : (updMmb f s).rif = s.rif := rfl
@[simp] theorem updMmb_miu (f : Mmb → Mmb) (s : State) : (updMmb f s).miu = s.miu := rfl
@[simp] theorem updMmb_frg (f : Mmb → Mmb) (s : State) : (updMmb f s).frg = s.frg := rfl
@[simp] theorem updMmb_tsu (f : Mmb → Mmb) (s : State) : (updMmb f s).tsu = s.tsu := rfl
@[simp] theorem updMmb_sbu (f : Mmb → Mmb) (s : State) : (updMmb f s).sbu = s.sbu := rfl
@[simp] theorem updMmb_sdu (f : Mmb → Mmb) (s : State) : (updMmb f s).sdu = s.sdu := rfl
@[simp] theorem updMmb_fcu (f : Mmb → Mmb) (s : State) : (updMmb f s).fcu = s.fcu := rfl
@[simp] theorem updMmb_eau (f : Mmb → Mmb) (s : State) : (updMmb f s).eau = s.eau := rfl
@[simp] theorem updMmb_csu (f : Mmb → Mmb) (s : State) : (updMmb f s).csu = s.csu := rfl
@[simp] theorem updMmb_tbs (f : Mmb → Mmb) (s : State) : (updMmb f s).tbs = s.tbs := rfl
@[simp] theorem updMmb_mmb (f : Mmb → Mmb) (s : State) : (updMmb f s).mmb = f s.mmb := rfl

/-! ### setGate -/

@[simp] theorem setGate_pending (g : Nat) (s : State) : (setGate g s).pending = s.pending := rfl
@[simp] theorem setGate_issued (g : Nat) (s : State) : (setGate g s).issued = s.issued := rfl
@[simp] theorem setGate_now (g : Nat) (s : State) : (setGate g s).now = s.now := rfl
@[simp] theorem setGate_mainPresent (g : Nat) (s : State) : (setGate g s).mainPresent = s.mainPresent := rfl
@[simp] theorem setGate_retentionHeld (g : Nat) (s : State) : (setGate g s).retentionHeld = s.retentionHeld := rfl
@[simp] theorem setGate_permissivePin (g : Nat) (s : State) : (setGate g s).permissivePin = s.permissivePin := rfl
@[simp] theorem setGate_rif (g : Nat) (s : State) : (setGate g s).rif = { s.rif with holding := { s.rif.holding with gateSetpoint := some g } } := rfl
@[simp] theorem setGate_miu (g : Nat) (s : State) : (setGate g s).miu = s.miu := rfl
@[simp] theorem setGate_frg (g : Nat) (s : State) : (setGate g s).frg = s.frg := rfl
@[simp] theorem setGate_tsu (g : Nat) (s : State) : (setGate g s).tsu = { s.tsu with gate := g } := rfl
@[simp] theorem setGate_sbu (g : Nat) (s : State) : (setGate g s).sbu = s.sbu := rfl
@[simp] theorem setGate_sdu (g : Nat) (s : State) : (setGate g s).sdu = s.sdu := rfl
@[simp] theorem setGate_fcu (g : Nat) (s : State) : (setGate g s).fcu = s.fcu := rfl
@[simp] theorem setGate_eau (g : Nat) (s : State) : (setGate g s).eau = s.eau := rfl
@[simp] theorem setGate_csu (g : Nat) (s : State) : (setGate g s).csu = s.csu := rfl
@[simp] theorem setGate_tbs (g : Nat) (s : State) : (setGate g s).tbs = s.tbs := rfl
@[simp] theorem setGate_mmb (g : Nat) (s : State) : (setGate g s).mmb = s.mmb := rfl

/-! ### writeFeed -/

@[simp] theorem writeFeed_pending (v : Nat) (s : State) : (writeFeed v s).pending = s.pending := rfl
@[simp] theorem writeFeed_issued (v : Nat) (s : State) : (writeFeed v s).issued = s.issued := rfl
@[simp] theorem writeFeed_now (v : Nat) (s : State) : (writeFeed v s).now = s.now := rfl
@[simp] theorem writeFeed_mainPresent (v : Nat) (s : State) : (writeFeed v s).mainPresent = s.mainPresent := rfl
@[simp] theorem writeFeed_retentionHeld (v : Nat) (s : State) : (writeFeed v s).retentionHeld = s.retentionHeld := rfl
@[simp] theorem writeFeed_permissivePin (v : Nat) (s : State) : (writeFeed v s).permissivePin = s.permissivePin := rfl
@[simp] theorem writeFeed_rif (v : Nat) (s : State) : (writeFeed v s).rif = { s.rif with holding := { s.rif.holding with feed := some v } } := rfl
@[simp] theorem writeFeed_miu (v : Nat) (s : State) : (writeFeed v s).miu = s.miu := rfl
@[simp] theorem writeFeed_frg (v : Nat) (s : State) : (writeFeed v s).frg = s.frg := rfl
@[simp] theorem writeFeed_tsu (v : Nat) (s : State) : (writeFeed v s).tsu = s.tsu := rfl
@[simp] theorem writeFeed_sbu (v : Nat) (s : State) : (writeFeed v s).sbu = s.sbu := rfl
@[simp] theorem writeFeed_sdu (v : Nat) (s : State) : (writeFeed v s).sdu = { s.sdu with feed := v } := rfl
@[simp] theorem writeFeed_fcu (v : Nat) (s : State) : (writeFeed v s).fcu = s.fcu := rfl
@[simp] theorem writeFeed_eau (v : Nat) (s : State) : (writeFeed v s).eau = s.eau := rfl
@[simp] theorem writeFeed_csu (v : Nat) (s : State) : (writeFeed v s).csu = s.csu := rfl
@[simp] theorem writeFeed_tbs (v : Nat) (s : State) : (writeFeed v s).tbs = s.tbs := rfl
@[simp] theorem writeFeed_mmb (v : Nat) (s : State) : (writeFeed v s).mmb = s.mmb := rfl

/-! ### putFeeder -/

@[simp] theorem putFeeder_pending (n : Feeder) (r : FeederRecord) (s : State) : (putFeeder n r s).pending = s.pending := rfl
@[simp] theorem putFeeder_issued (n : Feeder) (r : FeederRecord) (s : State) : (putFeeder n r s).issued = s.issued := rfl
@[simp] theorem putFeeder_now (n : Feeder) (r : FeederRecord) (s : State) : (putFeeder n r s).now = s.now := rfl
@[simp] theorem putFeeder_mainPresent (n : Feeder) (r : FeederRecord) (s : State) : (putFeeder n r s).mainPresent = s.mainPresent := rfl
@[simp] theorem putFeeder_retentionHeld (n : Feeder) (r : FeederRecord) (s : State) : (putFeeder n r s).retentionHeld = s.retentionHeld := rfl
@[simp] theorem putFeeder_permissivePin (n : Feeder) (r : FeederRecord) (s : State) : (putFeeder n r s).permissivePin = s.permissivePin := rfl
@[simp] theorem putFeeder_miu (n : Feeder) (r : FeederRecord) (s : State) : (putFeeder n r s).miu = s.miu := rfl
@[simp] theorem putFeeder_frg (n : Feeder) (r : FeederRecord) (s : State) : (putFeeder n r s).frg = s.frg := rfl
@[simp] theorem putFeeder_tsu (n : Feeder) (r : FeederRecord) (s : State) : (putFeeder n r s).tsu = s.tsu := rfl
@[simp] theorem putFeeder_sbu (n : Feeder) (r : FeederRecord) (s : State) : (putFeeder n r s).sbu = s.sbu := rfl
@[simp] theorem putFeeder_sdu (n : Feeder) (r : FeederRecord) (s : State) : (putFeeder n r s).sdu = s.sdu := rfl
@[simp] theorem putFeeder_fcu (n : Feeder) (r : FeederRecord) (s : State) : (putFeeder n r s).fcu = { s.fcu with feeders := s.fcu.feeders.set n r } := rfl
@[simp] theorem putFeeder_eau (n : Feeder) (r : FeederRecord) (s : State) : (putFeeder n r s).eau = s.eau := rfl
@[simp] theorem putFeeder_csu (n : Feeder) (r : FeederRecord) (s : State) : (putFeeder n r s).csu = s.csu := rfl
@[simp] theorem putFeeder_tbs (n : Feeder) (r : FeederRecord) (s : State) : (putFeeder n r s).tbs = s.tbs := rfl
@[simp] theorem putFeeder_mmb (n : Feeder) (r : FeederRecord) (s : State) : (putFeeder n r s).mmb = s.mmb := rfl

/-! ### setOverVoltage -/

@[simp] theorem setOverVoltage_pending (c : Nat) (s : State) : (setOverVoltage c s).pending = s.pending := rfl
@[simp] theorem setOverVoltage_issued (c : Nat) (s : State) : (setOverVoltage c s).issued = s.issued := rfl
@[simp] theorem setOverVoltage_now (c : Nat) (s : State) : (setOverVoltage c s).now = s.now := rfl
@[simp] theorem setOverVoltage_mainPresent (c : Nat) (s : State) : (setOverVoltage c s).mainPresent = s.mainPresent := rfl
@[simp] theorem setOverVoltage_retentionHeld (c : Nat) (s : State) : (setOverVoltage c s).retentionHeld = s.retentionHeld := rfl
@[simp] theorem setOverVoltage_permissivePin (c : Nat) (s : State) : (setOverVoltage c s).permissivePin = s.permissivePin := rfl
@[simp] theorem setOverVoltage_rif (c : Nat) (s : State) : (setOverVoltage c s).rif = s.rif := rfl
@[simp] theorem setOverVoltage_miu (c : Nat) (s : State) : (setOverVoltage c s).miu = s.miu := rfl
@[simp] theorem setOverVoltage_frg (c : Nat) (s : State) : (setOverVoltage c s).frg = s.frg := rfl
@[simp] theorem setOverVoltage_tsu (c : Nat) (s : State) : (setOverVoltage c s).tsu = s.tsu := rfl
@[simp] theorem setOverVoltage_sbu (c : Nat) (s : State) : (setOverVoltage c s).sbu = s.sbu := rfl
@[simp] theorem setOverVoltage_sdu (c : Nat) (s : State) : (setOverVoltage c s).sdu = s.sdu := rfl
@[simp] theorem setOverVoltage_fcu (c : Nat) (s : State) : (setOverVoltage c s).fcu = { s.fcu with overVoltage := c } := rfl
@[simp] theorem setOverVoltage_eau (c : Nat) (s : State) : (setOverVoltage c s).eau = s.eau := rfl
@[simp] theorem setOverVoltage_csu (c : Nat) (s : State) : (setOverVoltage c s).csu = s.csu := rfl
@[simp] theorem setOverVoltage_tbs (c : Nat) (s : State) : (setOverVoltage c s).tbs = s.tbs := rfl
@[simp] theorem setOverVoltage_mmb (c : Nat) (s : State) : (setOverVoltage c s).mmb = s.mmb := rfl

/-! ### setAccount -/

@[simp] theorem setAccount_pending (i : Fin 14) (a : Account) (s : State) : (setAccount i a s).pending = s.pending := rfl
@[simp] theorem setAccount_issued (i : Fin 14) (a : Account) (s : State) : (setAccount i a s).issued = s.issued := rfl
@[simp] theorem setAccount_now (i : Fin 14) (a : Account) (s : State) : (setAccount i a s).now = s.now := rfl
@[simp] theorem setAccount_mainPresent (i : Fin 14) (a : Account) (s : State) : (setAccount i a s).mainPresent = s.mainPresent := rfl
@[simp] theorem setAccount_retentionHeld (i : Fin 14) (a : Account) (s : State) : (setAccount i a s).retentionHeld = s.retentionHeld := rfl
@[simp] theorem setAccount_permissivePin (i : Fin 14) (a : Account) (s : State) : (setAccount i a s).permissivePin = s.permissivePin := rfl
@[simp] theorem setAccount_rif (i : Fin 14) (a : Account) (s : State) : (setAccount i a s).rif = s.rif := rfl
@[simp] theorem setAccount_miu (i : Fin 14) (a : Account) (s : State) : (setAccount i a s).miu = s.miu := rfl
@[simp] theorem setAccount_frg (i : Fin 14) (a : Account) (s : State) : (setAccount i a s).frg = s.frg := rfl
@[simp] theorem setAccount_tsu (i : Fin 14) (a : Account) (s : State) : (setAccount i a s).tsu = s.tsu := rfl
@[simp] theorem setAccount_sbu (i : Fin 14) (a : Account) (s : State) : (setAccount i a s).sbu = s.sbu := rfl
@[simp] theorem setAccount_sdu (i : Fin 14) (a : Account) (s : State) : (setAccount i a s).sdu = s.sdu := rfl
@[simp] theorem setAccount_fcu (i : Fin 14) (a : Account) (s : State) : (setAccount i a s).fcu = s.fcu := rfl
@[simp] theorem setAccount_eau (i : Fin 14) (a : Account) (s : State) : (setAccount i a s).eau = { s.eau with accounts := s.eau.accounts.set i a } := rfl
@[simp] theorem setAccount_csu (i : Fin 14) (a : Account) (s : State) : (setAccount i a s).csu = s.csu := rfl
@[simp] theorem setAccount_tbs (i : Fin 14) (a : Account) (s : State) : (setAccount i a s).tbs = s.tbs := rfl
@[simp] theorem setAccount_mmb (i : Fin 14) (a : Account) (s : State) : (setAccount i a s).mmb = s.mmb := rfl

/-! ### setTier -/

@[simp] theorem setTier_pending (n : Feeder) (r : Tier) (s : State) : (setTier n r s).pending = s.pending := rfl
@[simp] theorem setTier_issued (n : Feeder) (r : Tier) (s : State) : (setTier n r s).issued = s.issued := rfl
@[simp] theorem setTier_now (n : Feeder) (r : Tier) (s : State) : (setTier n r s).now = s.now := rfl
@[simp] theorem setTier_mainPresent (n : Feeder) (r : Tier) (s : State) : (setTier n r s).mainPresent = s.mainPresent := rfl
@[simp] theorem setTier_retentionHeld (n : Feeder) (r : Tier) (s : State) : (setTier n r s).retentionHeld = s.retentionHeld := rfl
@[simp] theorem setTier_permissivePin (n : Feeder) (r : Tier) (s : State) : (setTier n r s).permissivePin = s.permissivePin := rfl
@[simp] theorem setTier_rif (n : Feeder) (r : Tier) (s : State) : (setTier n r s).rif = s.rif := rfl
@[simp] theorem setTier_miu (n : Feeder) (r : Tier) (s : State) : (setTier n r s).miu = s.miu := rfl
@[simp] theorem setTier_frg (n : Feeder) (r : Tier) (s : State) : (setTier n r s).frg = s.frg := rfl
@[simp] theorem setTier_tsu (n : Feeder) (r : Tier) (s : State) : (setTier n r s).tsu = s.tsu := rfl
@[simp] theorem setTier_sbu (n : Feeder) (r : Tier) (s : State) : (setTier n r s).sbu = s.sbu := rfl
@[simp] theorem setTier_sdu (n : Feeder) (r : Tier) (s : State) : (setTier n r s).sdu = s.sdu := rfl
@[simp] theorem setTier_fcu (n : Feeder) (r : Tier) (s : State) : (setTier n r s).fcu = s.fcu := rfl
@[simp] theorem setTier_eau (n : Feeder) (r : Tier) (s : State) : (setTier n r s).eau = { s.eau with tiers := s.eau.tiers.set n r } := rfl
@[simp] theorem setTier_csu (n : Feeder) (r : Tier) (s : State) : (setTier n r s).csu = s.csu := rfl
@[simp] theorem setTier_tbs (n : Feeder) (r : Tier) (s : State) : (setTier n r s).tbs = s.tbs := rfl
@[simp] theorem setTier_mmb (n : Feeder) (r : Tier) (s : State) : (setTier n r s).mmb = s.mmb := rfl

/-! ### latchCause -/

@[simp] theorem latchCause_pending (c : Cause) (s : State) : (latchCause c s).pending = s.pending := rfl
@[simp] theorem latchCause_issued (c : Cause) (s : State) : (latchCause c s).issued = s.issued := rfl
@[simp] theorem latchCause_now (c : Cause) (s : State) : (latchCause c s).now = s.now := rfl
@[simp] theorem latchCause_mainPresent (c : Cause) (s : State) : (latchCause c s).mainPresent = s.mainPresent := rfl
@[simp] theorem latchCause_retentionHeld (c : Cause) (s : State) : (latchCause c s).retentionHeld = s.retentionHeld := rfl
@[simp] theorem latchCause_permissivePin (c : Cause) (s : State) : (latchCause c s).permissivePin = s.permissivePin := rfl
@[simp] theorem latchCause_rif (c : Cause) (s : State) : (latchCause c s).rif = s.rif := rfl
@[simp] theorem latchCause_miu (c : Cause) (s : State) : (latchCause c s).miu = s.miu := rfl
@[simp] theorem latchCause_frg (c : Cause) (s : State) : (latchCause c s).frg = s.frg := rfl
@[simp] theorem latchCause_tsu (c : Cause) (s : State) : (latchCause c s).tsu = s.tsu := rfl
@[simp] theorem latchCause_sbu (c : Cause) (s : State) : (latchCause c s).sbu = s.sbu := rfl
@[simp] theorem latchCause_sdu (c : Cause) (s : State) : (latchCause c s).sdu = s.sdu := rfl
@[simp] theorem latchCause_fcu (c : Cause) (s : State) : (latchCause c s).fcu = s.fcu := rfl
@[simp] theorem latchCause_eau (c : Cause) (s : State) : (latchCause c s).eau = s.eau := rfl
@[simp] theorem latchCause_csu (c : Cause) (s : State) : (latchCause c s).csu = s.csu := rfl
@[simp] theorem latchCause_tbs (c : Cause) (s : State) : (latchCause c s).tbs = s.tbs := rfl
@[simp] theorem latchCause_mmb (c : Cause) (s : State) : (latchCause c s).mmb = { s.mmb with latch := s.mmb.latch ||| causeSet c } := rfl

/-! ### markPending -/

@[simp] theorem markPending_pending (t : TableId) (s : State) : (markPending t s).pending = s.pending := rfl
@[simp] theorem markPending_issued (t : TableId) (s : State) : (markPending t s).issued = s.issued := rfl
@[simp] theorem markPending_now (t : TableId) (s : State) : (markPending t s).now = s.now := rfl
@[simp] theorem markPending_mainPresent (t : TableId) (s : State) : (markPending t s).mainPresent = s.mainPresent := rfl
@[simp] theorem markPending_retentionHeld (t : TableId) (s : State) : (markPending t s).retentionHeld = s.retentionHeld := rfl
@[simp] theorem markPending_permissivePin (t : TableId) (s : State) : (markPending t s).permissivePin = s.permissivePin := rfl
@[simp] theorem markPending_rif (t : TableId) (s : State) : (markPending t s).rif = s.rif := rfl
@[simp] theorem markPending_miu (t : TableId) (s : State) : (markPending t s).miu = s.miu := rfl
@[simp] theorem markPending_frg (t : TableId) (s : State) : (markPending t s).frg = s.frg := rfl
@[simp] theorem markPending_tsu (t : TableId) (s : State) : (markPending t s).tsu = s.tsu := rfl
@[simp] theorem markPending_sbu (t : TableId) (s : State) : (markPending t s).sbu = s.sbu := rfl
@[simp] theorem markPending_sdu (t : TableId) (s : State) : (markPending t s).sdu = s.sdu := rfl
@[simp] theorem markPending_fcu (t : TableId) (s : State) : (markPending t s).fcu = s.fcu := rfl
@[simp] theorem markPending_eau (t : TableId) (s : State) : (markPending t s).eau = s.eau := rfl
@[simp] theorem markPending_csu (t : TableId) (s : State) : (markPending t s).csu = s.csu := rfl
@[simp] theorem markPending_mmb (t : TableId) (s : State) : (markPending t s).mmb = s.mmb := rfl

end Sys2Proof.Machine
end

