-- ==== Sys2Proof/Laws/Banks.lean ====
section
/-! SUPPORT. The laws of banks: read after write, and the canonical form kept by every operation on the table store. -/

namespace Sys2Proof.Machine

/-! ### One bank -/

/-- Every index of a bank lies above a bound. -/
def Above (n : Nat) (b : BankStore) : Prop := ∀ p ∈ b, n < p.1

theorem bankWf_cons (i : Nat) (e : Stored) (b : BankStore) : bankWf ((i, e) :: b) = true ↔ Above i b ∧ bankWf b = true := by
  simp [bankWf, Above]

theorem bankRead_above {n i : Nat} {b : BankStore} (h : Above n b) (hi : i ≤ n) : bankRead b i = none := by
  induction b with
  | nil => rfl
  | cons p rest ih =>
    have hp := h p (by simp)
    have : p.1 ≠ i := by omega
    simp [bankRead, this, ih fun q hq => h q (by simp [hq])]

theorem bankPut_read (b : BankStore) (i j : Nat) (e : Stored) :
    bankRead (bankPut b i e) j = if j = i then some e else bankRead b j := by
  induction b with
  | nil => simp [bankPut, bankRead, eq_comm]
  | cons p rest ih =>
    obtain ⟨k, d⟩ := p
    unfold bankPut
    by_cases h1 : i < k
    · by_cases hj : j = i
      · simp [h1, bankRead, hj]
      · simp [h1, bankRead, hj, Ne.symm hj]
    · by_cases h2 : i = k
      · subst h2
        by_cases hj : j = i
        · simp [bankRead, hj]
        · simp [bankRead, hj, Ne.symm hj]
      · simp only [h1, h2, if_false, bankRead, ih]
        by_cases hk : k = j
        · have : ¬ j = i := by omega
          simp [hk, this]
        · simp [hk]

theorem bankPut_above {n i : Nat} {b : BankStore} {e : Stored} (h : Above n b) (hi : n < i) : Above n (bankPut b i e) := by
  induction b with
  | nil => intro p hp; simp [bankPut] at hp; simp [hp, hi]
  | cons q rest ih =>
    obtain ⟨k, d⟩ := q
    have hk := h (k, d) (by simp)
    have hr : Above n rest := fun p hp => h p (by simp [hp])
    unfold bankPut
    split
    · intro p hp
      simp only [List.mem_cons] at hp
      rcases hp with rfl | rfl | hp
      · exact hi
      · exact hk
      · exact hr p hp
    · split
      · intro p hp
        simp only [List.mem_cons] at hp
        rcases hp with rfl | hp
        · exact hi
        · exact hr p hp
      · intro p hp
        simp only [List.mem_cons] at hp
        rcases hp with rfl | hp
        · exact hk
        · exact ih hr p hp

theorem bankPut_wf (b : BankStore) (i : Nat) (e : Stored) (h : bankWf b = true) : bankWf (bankPut b i e) = true := by
  induction b with
  | nil => rfl
  | cons p rest ih =>
    obtain ⟨k, d⟩ := p
    have hw := (bankWf_cons k d rest).1 h
    unfold bankPut
    split
    · rw [bankWf_cons]
      refine ⟨?_, h⟩
      intro q hq
      simp only [List.mem_cons] at hq
      rcases hq with rfl | hq
      · assumption
      · have := hw.1 q hq; omega
    · split
      · rename_i h2
        subst h2
        rw [bankWf_cons]
        exact hw
      · rw [bankWf_cons]
        exact ⟨bankPut_above hw.1 (by omega), ih hw.2⟩

theorem bankClear_read (b : BankStore) (i j : Nat) : bankRead (bankClear b i) j = if j = i then none else bankRead b j := by
  induction b with
  | nil => simp [bankClear, bankRead]
  | cons p rest ih =>
    obtain ⟨k, d⟩ := p
    simp only [bankClear] at ih
    by_cases hk : k = i
    · subst hk
      by_cases hj : j = k
      · subst hj; simpa [bankClear] using ih
      · simp [bankClear, bankRead, hj, Ne.symm hj, ih]
    · by_cases hj : k = j
      · subst hj; simp [bankClear, bankRead, hk]
      · simp [bankClear, bankRead, hk, hj, ih]

theorem bankClear_wf (b : BankStore) (i : Nat) (h : bankWf b = true) : bankWf (bankClear b i) = true := by
  induction b with
  | nil => rfl
  | cons p rest ih =>
    obtain ⟨k, d⟩ := p
    have hw := (bankWf_cons k d rest).1 h
    by_cases hk : k = i
    · simpa [bankClear, hk] using ih hw.2
    · have : bankClear ((k, d) :: rest) i = (k, d) :: bankClear rest i := by simp [bankClear, hk]
      rw [this, bankWf_cons]
      exact ⟨fun q hq => hw.1 q (List.mem_filter.1 hq).1, ih hw.2⟩

/-- A write of an entry: it reads back, every other entry reads as before, and the form is kept. -/
theorem bankWrite_read (b : BankStore) (i j : Nat) (e : Option Stored) :
    bankRead (bankWrite b i e) j = if j = i then e else bankRead b j := by
  cases e with
  | none => simp [bankWrite, bankClear_read]
  | some e => simp [bankWrite, bankPut_read b i j e]

theorem bankWrite_wf (b : BankStore) (i : Nat) (e : Option Stored) (h : bankWf b = true) : bankWf (bankWrite b i e) = true := by
  cases e with
  | none => exact bankClear_wf b i h
  | some e => exact bankPut_wf b i e h

/-! ### The tables of the store -/

/-- Both banks of a table are canonical. -/
def tableWf (x : TableStore) : Prop := bankWf x.bankA = true ∧ bankWf x.bankB = true

theorem tableIndex_inj {t u : TableId} (h : (tableIndex t).val = (tableIndex u).val) : t = u := by
  cases t <;> cases u <;> first | rfl | exact absurd h (by decide)

/-- The table store is canonical exactly when each table is. -/
theorem tbsWf_iff (s : State) : tbsWf s.tbs = true ↔ ∀ t, tableWf (table t s) := by
  simp only [tbsWf, List.all_eq_true, Bool.and_eq_true, Vector.mem_toList_iff]
  constructor
  · intro h t
    exact h _ (Vector.getElem_mem _)
  · intro h x hx
    obtain ⟨i, hi, rfl⟩ := Vector.mem_iff_getElem.1 hx
    have hall : ∀ j : Fin 11, (tableOfId (j.val + 1)).map tableIndex = some j := by decide
    obtain ⟨t, -, ht⟩ := Option.map_eq_some_iff.1 (hall ⟨i, hi⟩)
    have hti : (tableIndex t).val = i := congrArg Fin.val ht
    subst hti
    exact h t

theorem setTable_table (t u : TableId) (x : TableStore) (s : State) :
    table u (setTable t x s) = if u = t then x else table u s := by
  by_cases h : u = t
  · subst h; simp [table, setTable]
  · have : (tableIndex t).val ≠ (tableIndex u).val := fun e => h (tableIndex_inj e).symm
    simp [table, setTable, h, this]

theorem bankOf_setBank (x : TableStore) (b c : Bank) (l : BankStore) :
    bankOf (setBank x b l) c = if c = b then l else bankOf x c := by
  cases b <;> cases c <;> simp [bankOf, setBank]

@[simp] theorem setBank_active (x : TableStore) (b : Bank) (l : BankStore) : (setBank x b l).active = x.active := by
  cases b <;> rfl

@[simp] theorem setBank_pending (x : TableStore) (b : Bank) (l : BankStore) : (setBank x b l).pending = x.pending := by
  cases b <;> rfl

@[simp] theorem setBank_generation (x : TableStore) (b : Bank) (l : BankStore) :
    (setBank x b l).generation = x.generation := by cases b <;> rfl

@[simp] theorem setBank_history (x : TableStore) (b : Bank) (l : BankStore) : (setBank x b l).history = x.history := by
  cases b <;> rfl

theorem tableWf_bankOf {x : TableStore} (h : tableWf x) (b : Bank) : bankWf (bankOf x b) = true := by
  cases b
  · exact h.1
  · exact h.2

theorem setBank_wf {x : TableStore} (h : tableWf x) (b : Bank) {l : BankStore} (hl : bankWf l = true) :
    tableWf (setBank x b l) := by
  cases b
  · exact ⟨hl, h.2⟩
  · exact ⟨h.1, hl⟩

/-- Everything a write of one entry does to the tables: the entry, and no other. -/
theorem storeEntry_read (t u : TableId) (b c : Bank) (i j : Nat) (e : Option Stored) (s : State) :
    bankRead (bankOf (table u (storeEntry t b i e s)) c) j =
      if u = t ∧ c = b ∧ j = i then e else bankRead (bankOf (table u s) c) j := by
  simp only [storeEntry, setTable_table]
  by_cases hu : u = t
  · subst hu
    simp only [if_true, bankOf_setBank]
    by_cases hc : c = b
    · subst hc; simp [bankWrite_read]
    · simp [hc]
  · simp [hu]

/-- A write of one entry leaves the four fields of every table. -/
theorem storeEntry_fields (t u : TableId) (b : Bank) (i : Nat) (e : Option Stored) (s : State) :
    (table u (storeEntry t b i e s)).active = (table u s).active ∧
    (table u (storeEntry t b i e s)).pending = (table u s).pending ∧
    (table u (storeEntry t b i e s)).generation = (table u s).generation ∧
    (table u (storeEntry t b i e s)).history = (table u s).history := by
  simp only [storeEntry, setTable_table]
  by_cases hu : u = t
  · subst hu; simp
  · simp [hu]

/-! ### The canonical form is kept -/

theorem storeEntry_wf (t : TableId) (b : Bank) (i : Nat) (e : Option Stored) (s : State) (h : tbsWf s.tbs = true) :
    tbsWf (storeEntry t b i e s).tbs = true := by
  rw [tbsWf_iff] at h ⊢
  intro u
  simp only [storeEntry, setTable_table]
  by_cases hu : u = t
  · subst hu
    simpa using setBank_wf (h u) b (bankWrite_wf _ i e (tableWf_bankOf (h u) b))
  · simpa [hu] using h u

theorem setTable_wf (t : TableId) (x : TableStore) (s : State) (h : tbsWf s.tbs = true) (hx : tableWf x) :
    tbsWf (setTable t x s).tbs = true := by
  rw [tbsWf_iff] at h ⊢
  intro u
  rw [setTable_table]
  split
  · exact hx
  · exact h u

theorem takeSwap_wf (t : TableId) (s : State) (h : tbsWf s.tbs = true) : tbsWf (takeSwap t s).tbs = true :=
  setTable_wf t _ s h (by simpa [tableWf] using (tbsWf_iff s).1 h t)

theorem takePending_wf (t : TableId) (s : State) (h : tbsWf s.tbs = true) : tbsWf (takePending t s).tbs = true := by
  unfold takePending
  split
  · exact takeSwap_wf t s h
  · exact h

theorem markPending_wf (t : TableId) (s : State) (h : tbsWf s.tbs = true) : tbsWf (markPending t s).tbs = true :=
  setTable_wf t _ s h (by simpa [tableWf] using (tbsWf_iff s).1 h t)

theorem addDamaged_tables (d : DamagedRef) (t : Tbs) : (addDamaged d t).tables = t.tables := by
  unfold addDamaged; split <;> rfl

theorem removeDamaged_tables (d : DamagedRef) (s : State) : (removeDamaged d s).tbs.tables = s.tbs.tables := by
  unfold removeDamaged
  split
  · dsimp only
    split
    · split <;> rfl
    · rfl
  · rfl

theorem readBank_wf (t : TableId) (b : Bank) (i : Nat) (s : State) (h : tbsWf s.tbs = true) :
    tbsWf (readBank t b i s).2.tbs = true := by
  unfold readBank
  split
  · exact h
  · exact h
  · exact h
  · exact storeEntry_wf t b i _ s h
  · simp only [damageEntry, latch_tbs, tbsWf, addDamaged_tables]
    exact storeEntry_wf t b i _ s h

theorem readActive_wf (t : TableId) (i : Nat) (s : State) (h : tbsWf s.tbs = true) :
    tbsWf (readActive t i s).2.tbs = true := readBank_wf t _ i s h

theorem readActives_wf (t : TableId) (is : List Nat) (s : State) (h : tbsWf s.tbs = true) :
    tbsWf (readActives t is s).2.tbs = true := by
  induction is generalizing s with
  | nil => exact h
  | cons i rest ih => exact ih _ (readActive_wf t i s h)

theorem writeStandby_wf (t : TableId) (i : Nat) (img : Option Image) (s : State) (h : tbsWf s.tbs = true) :
    tbsWf (writeStandby t i img s).tbs = true := by
  simp only [writeStandby, tbsWf, removeDamaged_tables]
  exact storeEntry_wf t _ i _ s h

theorem strike_wf (u : Upset) (s : State) (h : tbsWf s.tbs = true) : tbsWf (strike u s).tbs = true := by
  unfold strike
  split
  · exact storeEntry_wf _ _ _ _ s h
  · exact h

theorem damageEntry_wf (t : TableId) (b : Bank) (i : Nat) (s : State) (h : tbsWf s.tbs = true) :
    tbsWf (damageEntry t b i s).tbs = true := by
  simp only [damageEntry, latch_tbs, tbsWf, addDamaged_tables]
  exact storeEntry_wf t b i _ s h

theorem findDouble_wf (t : TableId) (i : Nat) (s : State) (h : tbsWf s.tbs = true) :
    tbsWf (findDouble t i s).tbs = true := by
  unfold findDouble
  dsimp only
  split
  · exact damageEntry_wf t _ i s h
  · exact h

theorem copyOver_wf (t : TableId) (i : Nat) (img : Option Image) (s : State) (h : tbsWf s.tbs = true) :
    tbsWf (copyOver t i img s).tbs = true := writeStandby_wf t i img _ (findDouble_wf t i s h)

theorem reset_tbsWf : tbsWf State.reset.tbs = true := by decide

end Sys2Proof.Machine
end

