-- ==== Sys2Proof/Laws/Ops.lean ====
section
/-! SUPPORT. For each shared operation, one law that says everything it can do. -/

namespace Sys2Proof.Machine

/-! ### Time and events -/

theorem powered_true (s t : State) (h : s.mainPresent = true) : powered s t = t := by simp [powered, h]

theorem powered_false (s t : State) (h : s.mainPresent = false) : powered s t = s := by simp [powered, h]

/-- The timebase is brought to a time, and never back. -/
theorem advanceTo_now (time : Nat) (s : State) : (advanceTo time s).now = max s.now time := by
  simp [advanceTo]; omega

/-- Nothing but the timebase and the divider changes as time passes. -/
theorem advanceTo_frame (time : Nat) (s : State) :
    advanceTo time s = { s with now := (advanceTo time s).now, csu := (advanceTo time s).csu } := rfl

/-! ### Reads and swaps of the table store -/

/-- The two causes that a read can latch. -/
def isStoreNotice (e : Instr) : Prop := e = .latchNotice .memoryCorrected ∨ e = .latchNotice .tableDamaged

/-- Only the table store has changed, and the events issued are its latch notices. -/
def StoreOnly (s t : State) : Prop :=
  t = { s with tbs := t.tbs, issued := t.issued } ∧ ∃ n : List Instr, (∀ e ∈ n, isStoreNotice e) ∧ t.issued = s.issued ++ n

theorem StoreOnly.refl (s : State) : StoreOnly s s := ⟨rfl, [], by simp, by simp⟩

theorem StoreOnly.trans {s t u : State} (h : StoreOnly s t) (k : StoreOnly t u) : StoreOnly s u := by
  obtain ⟨h1, n, hn, h2⟩ := h
  obtain ⟨k1, m, hm, k2⟩ := k
  refine ⟨?_, n ++ m, ?_, ?_⟩
  · rw [k1, h1]
  · intro e he
    rcases List.mem_append.1 he with he | he
    · exact hn e he
    · exact hm e he
  · rw [k2, h2, List.append_assoc]

theorem storeEntry_storeOnly (t : TableId) (b : Bank) (i : Nat) (e : Option Stored) (s : State) :
    StoreOnly s (storeEntry t b i e s) := ⟨rfl, [], by simp, by simp⟩

theorem takePending_storeOnly (t : TableId) (s : State) : StoreOnly s (takePending t s) := by
  unfold takePending
  split
  · exact ⟨rfl, [], by simp, by simp⟩
  · exact StoreOnly.refl s

theorem removeDamaged_storeOnly (d : DamagedRef) (s : State) : StoreOnly s (removeDamaged d s) := by
  unfold removeDamaged
  split
  · dsimp only
    split
    · split <;> exact ⟨rfl, [], by simp, by simp⟩
    · exact ⟨rfl, [], by simp, by simp⟩
  · exact StoreOnly.refl s

theorem writeStandby_storeOnly (t : TableId) (i : Nat) (img : Option Image) (s : State) :
    StoreOnly s (writeStandby t i img s) :=
  (storeEntry_storeOnly t _ i _ s).trans (removeDamaged_storeOnly _ _)

theorem damageEntry_storeOnly (t : TableId) (b : Bank) (i : Nat) (s : State) : StoreOnly s (damageEntry t b i s) :=
  ⟨rfl, [.latchNotice .tableDamaged], by simp [isStoreNotice], rfl⟩

theorem findDouble_storeOnly (t : TableId) (i : Nat) (s : State) : StoreOnly s (findDouble t i s) := by
  unfold findDouble
  dsimp only
  split
  · exact damageEntry_storeOnly t _ i s
  · exact StoreOnly.refl s

theorem copyOver_storeOnly (t : TableId) (i : Nat) (img : Option Image) (s : State) : StoreOnly s (copyOver t i img s) :=
  (findDouble_storeOnly t i s).trans (writeStandby_storeOnly t i img _)

theorem readBank_storeOnly (t : TableId) (b : Bank) (i : Nat) (s : State) : StoreOnly s (readBank t b i s).2 := by
  unfold readBank
  split
  · exact StoreOnly.refl s
  · exact StoreOnly.refl s
  · exact StoreOnly.refl s
  · exact ⟨rfl, [.latchNotice .memoryCorrected], by simp [isStoreNotice], rfl⟩
  · exact ⟨rfl, [.latchNotice .tableDamaged], by simp [isStoreNotice], rfl⟩

theorem readActive_storeOnly (t : TableId) (i : Nat) (s : State) : StoreOnly s (readActive t i s).2 :=
  readBank_storeOnly t _ i s

theorem readActives_storeOnly (t : TableId) (is : List Nat) (s : State) : StoreOnly s (readActives t is s).2 := by
  induction is generalizing s with
  | nil => exact StoreOnly.refl s
  | cons i rest ih => exact (readActive_storeOnly t i s).trans (ih _)

/-- What a read returns is what the entry as it stands gives (R177, R178). -/
theorem readBank_result (t : TableId) (b : Bank) (i : Nat) (s : State) :
    (readBank t b i s).1 = resultOf (entryAt t b i s) := by
  unfold readBank entryAt
  split <;> (rename_i h; simp [h, resultOf])

theorem readActive_result (t : TableId) (i : Nat) (s : State) : (readActive t i s).1 = activeReads t i s :=
  readBank_result t _ i s

/-- No read and no write of one entry changes which bank is active, the mark, the generation or the history. -/
def SameSwaps (s t : State) : Prop :=
  ∀ u, (table u t).active = (table u s).active ∧ (table u t).pending = (table u s).pending ∧
    (table u t).generation = (table u s).generation ∧ (table u t).history = (table u s).history

theorem SameSwaps.refl (s : State) : SameSwaps s s := fun _ => ⟨rfl, rfl, rfl, rfl⟩

theorem SameSwaps.trans {s t u : State} (h : SameSwaps s t) (k : SameSwaps t u) : SameSwaps s u := fun x => by
  obtain ⟨h1, h2, h3, h4⟩ := h x
  obtain ⟨k1, k2, k3, k4⟩ := k x
  exact ⟨k1.trans h1, k2.trans h2, k3.trans h3, k4.trans h4⟩

/-- A table depends on the tables of the store alone. -/
theorem table_congr {s t : State} (h : t.tbs.tables = s.tbs.tables) (u : TableId) : table u t = table u s := by
  simp [table, h]

theorem sameSwaps_of_tables {s t : State} (h : t.tbs.tables = s.tbs.tables) : SameSwaps s t := fun u => by
  simp [table_congr h u]

theorem readBank_sameSwaps (t : TableId) (b : Bank) (i : Nat) (s : State) : SameSwaps s (readBank t b i s).2 := by
  unfold readBank
  split
  · exact SameSwaps.refl s
  · exact SameSwaps.refl s
  · exact SameSwaps.refl s
  · exact SameSwaps.trans (fun u => storeEntry_fields t u b i _ s) (sameSwaps_of_tables rfl)
  · exact SameSwaps.trans (fun u => storeEntry_fields t u b i (some .damaged) s)
      (sameSwaps_of_tables (by simp [damageEntry, addDamaged_tables]))

theorem readActive_sameSwaps (t : TableId) (i : Nat) (s : State) : SameSwaps s (readActive t i s).2 :=
  readBank_sameSwaps t _ i s

theorem readActives_sameSwaps (t : TableId) (is : List Nat) (s : State) : SameSwaps s (readActives t is s).2 := by
  induction is generalizing s with
  | nil => exact SameSwaps.refl s
  | cons i rest ih => exact (readActive_sameSwaps t i s).trans (ih _)

theorem writeStandby_sameSwaps (t : TableId) (i : Nat) (img : Option Image) (s : State) :
    SameSwaps s (writeStandby t i img s) :=
  SameSwaps.trans (fun u => storeEntry_fields t u _ i _ s) (sameSwaps_of_tables (removeDamaged_tables _ _))

theorem damageEntry_sameSwaps (t : TableId) (b : Bank) (i : Nat) (s : State) : SameSwaps s (damageEntry t b i s) :=
  SameSwaps.trans (fun u => storeEntry_fields t u b i (some .damaged) s)
    (sameSwaps_of_tables (by simp [damageEntry, addDamaged_tables]))

theorem findDouble_sameSwaps (t : TableId) (i : Nat) (s : State) : SameSwaps s (findDouble t i s) := by
  unfold findDouble
  dsimp only
  split
  · exact damageEntry_sameSwaps t _ i s
  · exact SameSwaps.refl s

theorem copyOver_sameSwaps (t : TableId) (i : Nat) (img : Option Image) (s : State) : SameSwaps s (copyOver t i img s) :=
  (findDouble_sameSwaps t i s).trans (writeStandby_sameSwaps t i img _)

/-- Everything COPY-ACTIVE does to the entries as it writes one over: that entry, and no other. -/
theorem copyOver_entry (t u : TableId) (c : Bank) (i j : Nat) (img : Option Image) (s : State) :
    entryAt u c j (copyOver t i img s) =
      if u = t ∧ c = bankOfRole (table t s) .standby ∧ j = i then img.map fun x => .good x .clean else entryAt u c j s := by
  have hb : bankOfRole (table t (findDouble t i s)) .standby = bankOfRole (table t s) .standby := by
    simp [bankOfRole, (findDouble_sameSwaps t i s t).1]
  have hf : ∀ e, entryAt u c j (storeEntry t (bankOfRole (table t s) .standby) i e (findDouble t i s)) =
      if u = t ∧ c = bankOfRole (table t s) .standby ∧ j = i then e else entryAt u c j s := by
    intro e
    simp only [entryAt, storeEntry_read t u _ c i j e _]
    split
    · rfl
    · rename_i hne
      unfold findDouble
      dsimp only
      split
      · have : ∀ x, bankRead (bankOf (table u (damageEntry t x i s)) c) j =
            bankRead (bankOf (table u (storeEntry t x i (some .damaged) s)) c) j := fun x => by
          simp [damageEntry, table, addDamaged_tables]
        rw [this, storeEntry_read t u _ c i j _ s, if_neg hne]
      · rfl
  have hw : entryAt u c j (copyOver t i img s) =
      entryAt u c j (storeEntry t (bankOfRole (table t s) .standby) i (img.map fun x => .good x .clean)
        (findDouble t i s)) := by
    simp only [copyOver, writeStandby, hb, entryAt]
    rw [table_congr (removeDamaged_tables _ _)]
  rw [hw, hf]

/-! ### Upsets -/

/-- An upset changes the store alone, and no mark of it. -/
theorem strike_frame (u : Upset) (s : State) :
    strike u s = { s with tbs := { s.tbs with tables := (strike u s).tbs.tables } } ∧ SameSwaps s (strike u s) := by
  unfold strike
  split
  · exact ⟨rfl, fun x => storeEntry_fields _ x _ _ _ s⟩
  · exact ⟨rfl, SameSwaps.refl s⟩

/-- Everything an upset does to the entries: the one it names (R177, R178; log 12). -/
theorem strike_entry (u : Upset) (t : TableId) (b : Bank) (i : Nat) (s : State) :
    entryAt t b i (strike u s) =
      if u.table = t ∧ u.bank = b ∧ u.index = i then struckBy u.kind (entryAt t b i s) else entryAt t b i s := by
  have hc : (t = u.table ∧ b = u.bank ∧ i = u.index) ↔ (u.table = t ∧ u.bank = b ∧ u.index = i) :=
    ⟨fun ⟨x, y, z⟩ => ⟨x.symm, y.symm, z.symm⟩, fun ⟨x, y, z⟩ => ⟨x.symm, y.symm, z.symm⟩⟩
  unfold strike
  split
  · rename_i img e hr
    simp only [entryAt, storeEntry_read u.table t u.bank b u.index i _ s, hc]
    split
    · rename_i hu
      obtain ⟨rfl, rfl, rfl⟩ := hu
      rw [hr]
      cases hk : u.kind <;> cases e <;> simp [struckBy, upsetError]
    · rfl
  · rename_i hr
    split
    · rename_i hu
      obtain ⟨rfl, rfl, rfl⟩ := hu
      unfold entryAt
      cases he : bankRead (bankOf (table u.table s) u.bank) u.index with
      | none => simp [struckBy]
      | some x =>
        cases x with
        | good img e => exact absurd he (hr img e)
        | damaged => simp [struckBy]
    · rfl

/-- The upsets of a microsecond strike the entries they name, one after the other. -/
theorem strikes_entry (l : List Upset) (t : TableId) (b : Bank) (i : Nat) (s : State) :
    entryAt t b i (l.foldl (fun s u => strike u s) s) = struck t b i l (entryAt t b i s) := by
  induction l generalizing s with
  | nil => rfl
  | cons u rest ih =>
    simp only [List.foldl_cons, ih, strike_entry]
    rfl

/-- Reading an entry that has no error changes nothing. -/
theorem readBank_clean (t : TableId) (b : Bank) (i : Nat) (img : Image) (s : State)
    (h : entryAt t b i s = some (.good img .clean)) : readBank t b i s = (.good img, s) := by
  unfold entryAt at h
  simp [readBank, h]

/-- A read leaves what every read returns: it corrects what was readable and marks what was not (R177, R178). -/
theorem readBank_keeps (t u : TableId) (b c : Bank) (i j : Nat) (s : State) :
    resultOf (entryAt u c j (readBank t b i s).2) = resultOf (entryAt u c j s) := by
  unfold readBank
  split
  · rfl
  · rfl
  · rfl
  · rename_i img syndrome hr
    have : entryAt u c j (correctEntry t b i img syndrome s) =
        entryAt u c j (storeEntry t b i (some (.good img .clean)) s) := rfl
    rw [this]
    simp only [entryAt, storeEntry_read t u b c i j _ s]
    split
    · rename_i hc
      obtain ⟨rfl, rfl, rfl⟩ := hc
      simp [hr, resultOf]
    · rfl
  · rename_i img hr
    have : entryAt u c j (damageEntry t b i s) = entryAt u c j (storeEntry t b i (some .damaged) s) := by
      simp [entryAt, damageEntry, table, addDamaged_tables]
    rw [this]
    simp only [entryAt, storeEntry_read t u b c i j _ s]
    split
    · rename_i hc
      obtain ⟨rfl, rfl, rfl⟩ := hc
      simp [hr, resultOf]
    · rfl

/-- Several reads of the active bank return what their entries as they stand give. -/
theorem readActives_result (t : TableId) (is : List Nat) (s : State) :
    (readActives t is s).1 = is.map fun i => activeReads t i s := by
  induction is generalizing s with
  | nil => rfl
  | cons i rest ih =>
    have hkeep : ∀ j, activeReads t j (readActive t i s).2 = activeReads t j s := fun j => by
      simp only [activeReads, (readActive_sameSwaps t i s t).1]
      exact readBank_keeps t t _ _ i j s
    simp only [readActives, List.map_cons, readActive_result]
    rw [ih]
    simp [hkeep]

/-! ### Everything that a read does -/

theorem entryAt_congr {s t : State} (h : t.tbs.tables = s.tbs.tables) (u : TableId) (c : Bank) (j : Nat) :
    entryAt u c j t = entryAt u c j s := by
  unfold entryAt
  rw [table_congr h u]

/-- A write of one entry: the entry, and no other. -/
theorem storeEntry_entry (t u : TableId) (b c : Bank) (i j : Nat) (e : Option Stored) (s : State) :
    entryAt u c j (storeEntry t b i e s) = if u = t ∧ c = b ∧ j = i then e else entryAt u c j s :=
  storeEntry_read t u b c i j e s

theorem storeEntry_othersStand {s t : State} (x : TableId) (b : Bank) (i : Nat) (e : Option Stored)
    (h : t.tbs.tables = (storeEntry x b i e s).tbs.tables) :
    OthersStand x b i s t ∧ (∀ y, MarksStand y s t) ∧ entryAt x b i t = e := by
  refine ⟨fun u c j hne => ?_, fun y => ?_, ?_⟩
  · rw [entryAt_congr h, storeEntry_entry, if_neg hne]
  · unfold MarksStand
    rw [table_congr h y]
    obtain ⟨h1, h2, h3, h4⟩ := storeEntry_fields x y b i e s
    cases hy : table y (storeEntry x b i e s)
    simp_all
  · rw [entryAt_congr h, storeEntry_entry]
    simp

/-- A read of one entry: the entry, the store's records, and the notice it issues (R177, R178, R179). -/
theorem readBank_checks (t : TableId) (b : Bank) (i : Nat) (s : State) :
    ReadChecks t b i s (readBank t b i s).2 ∧
    (readBank t b i s).2.issued = s.issued ++ readNotices (entryAt t b i s) := by
  unfold readBank
  rw [show bankRead (bankOf (table t s) b) i = entryAt t b i s from rfl]
  split <;> rename_i h
  · simp [ReadChecks, OthersStand, MarksStand, h, readNotices]
  · simp [ReadChecks, OthersStand, MarksStand, h, readNotices]
  · simp [ReadChecks, OthersStand, MarksStand, h, readNotices]
  · rename_i img syndrome
    obtain ⟨ho, hm, he⟩ := storeEntry_othersStand (t := correctEntry t b i img syndrome s) t b i _ rfl
    refine ⟨⟨ho, hm, ?_, by simp [h], by simp [h, readNotices]⟩, by rw [h]; rfl⟩
    intro img' syndrome' h'
    obtain ⟨rfl, rfl⟩ : img = img' ∧ syndrome = syndrome' := by simpa [h] using h'
    exact ⟨he, rfl⟩
  · obtain ⟨ho, hm, he⟩ := storeEntry_othersStand (s := s) (t := damageEntry t b i s) t b i (some .damaged)
      (by simp [damageEntry, addDamaged_tables])
    refine ⟨⟨ho, hm, by simp [h], fun img' _ => ⟨he, fun hl => ?_, fun hl => ?_⟩, by simp [h, readNotices]⟩, by rw [h]; rfl⟩
    · have hf : (storeEntry t b i (some .damaged) s).tbs.damagedList.length < Config.damagedListLength := hl
      simp only [damageEntry, latch_tbs, addDamaged, hf, if_true]
      rfl
    · have hf : ¬(storeEntry t b i (some .damaged) s).tbs.damagedList.length < Config.damagedListLength := Nat.not_lt.2 hl
      simp only [damageEntry, latch_tbs, addDamaged, hf, if_false]
      rfl

/-- An owner's read after the swap it takes returns what the entry that comes into force gives (R176). -/
theorem ownerReads_result (t : TableId) (i : Nat) (s : State) :
    (readActive t i (takePending t s)).1 = ownerReads t i s := by
  rw [readActive_result]
  cases h : (table t s).pending
  · simp [activeReads, ownerReads, takePending, h]
  · simp only [activeReads, ownerReads, takePending, takeSwap, entryAt, setTable_table, h, if_true]
    cases otherBank (table t s).active <;> rfl

/-! ### Feeders -/

/-- A feeder's record is replaced, and no other feeder's. -/
theorem setFeeder_feeder (n m : Feeder) (r : FeederRecord) (s : State) :
    feeder m (setFeeder n r s) = if m = n then r else feeder m s := by
  by_cases h : m = n
  · subst h; simp [feeder]
  · have : n.val ≠ m.val := fun e => h (Fin.ext e.symm)
    simp [feeder, h, this]

theorem putFeeder_feeder (n m : Feeder) (r : FeederRecord) (s : State) :
    feeder m (putFeeder n r s) = if m = n then r else feeder m s := setFeeder_feeder n m r s

/-- The breaker command written with a feeder's record is the one its state gives (R130). -/
theorem putFeeder_breaker (n m : Feeder) (r : FeederRecord) (s : State) :
    (putFeeder n r s).rif.holding.feederBreaker[m] =
      if m = n then some (breakerCommand r) else s.rif.holding.feederBreaker[m] := by
  by_cases h : m = n
  · subst h; simp [putFeeder]
  · have : n.val ≠ m.val := fun e => h (Fin.ext e.symm)
    simp [putFeeder, h, this]

/-- What one feeder's action keeps, the action on all twelve keeps. -/
theorem eachFeeder_keeps (P : State → Prop) (f : Feeder → State → State) (h : ∀ n s, P s → P (f n s)) (s : State)
    (hs : P s) : P (eachFeeder f s) := by
  unfold eachFeeder
  generalize List.finRange 12 = l
  induction l generalizing s with
  | nil => exact hs
  | cons n rest ih => exact ih _ (h n s hs)

/-! ### The claim list -/

/-- A holder's record leaves the list, and only that. -/
theorem dropClaim_holders (h : Holder) (k : Nat) (l : List Claim) :
    (dropClaim h k l).map (·.holder) = (l.map (·.holder)).filter fun x => !(x = h) := by
  unfold dropClaim
  induction l with
  | nil => rfl
  | cons c rest ih =>
    by_cases hc : c.holder = h
    · simpa [hc] using ih
    · simp only [List.filter_cons, hc, decide_false, Bool.not_false, if_true, List.map_cons, ih]
      congr 1
      split <;> rfl

/-- The holders of the records after a removal. -/
theorem removeClaim_holders (h : Holder) (s : State) :
    (claims (removeClaim h s)).map (·.holder) = ((claims s).map (·.holder)).filter fun x => !(x = h) := by
  unfold removeClaim
  split
  · rename_i hn
    have hnone : ∀ c ∈ claims s, ¬ c.holder = h := by simpa [claimOf] using hn
    rw [List.filter_eq_self.2]
    intro x hx
    obtain ⟨c, hc, rfl⟩ := List.mem_map.1 hx
    simpa using hnone c hc
  · simp [claims, dropClaim_holders]

/-- A removal changes SBU alone. -/
theorem removeClaim_frame (h : Holder) (s : State) : removeClaim h s = { s with sbu := (removeClaim h s).sbu } := by
  unfold removeClaim
  split <;> rfl

/-- A record inserted into the queue stands among the records that were there. -/
theorem insertClaim_holders (c : Claim) (q : List Claim) :
    ((insertClaim c q).map (·.holder)).Perm (c.holder :: q.map (·.holder)) := by
  induction q with
  | nil => exact List.Perm.refl _
  | cons d rest ih =>
    unfold insertClaim
    split
    · exact List.Perm.refl _
    · exact (List.Perm.cons _ ih).trans (List.Perm.swap _ _ _)

/-- The end of a feeder's restore changes SBU's restore alone, and only where it is that feeder's (R103; log 47). -/
theorem dropRestore_cases (n : Feeder) (s : State) :
    (s.sbu.restoring = some n ∧ dropRestore n s = { s with sbu := { s.sbu with restoring := none } }) ∨
    (s.sbu.restoring ≠ some n ∧ dropRestore n s = s) := by
  unfold dropRestore
  split
  · rename_i h; exact .inl ⟨h, rfl⟩
  · rename_i h; exact .inr ⟨h, rfl⟩

/-- A FEEDER request or a schedule action is out of range, absent, or done; only the last acts (R145, R167). -/
theorem judgeFeeder_cases (number : Word) (act : Feeder → State → State) (s : State) :
    (feederOfNumber number = none ∧ judgeFeeder number act s = (.badArgument, s)) ∨
    ∃ n, feederOfNumber number = some n ∧
      ((feederAbsent (feeder n s) = true ∧ judgeFeeder number act s = (.absent, s)) ∨
       (feederAbsent (feeder n s) = false ∧ judgeFeeder number act s = (.done, act n s))) := by
  unfold judgeFeeder
  split
  · rename_i h; exact .inl ⟨h, rfl⟩
  · rename_i n h
    cases ha : feederAbsent (feeder n s) <;> simp [h, ha]

/-! ### The shaft timers -/

/-- Only the time, MIU's record and the events have changed. -/
def ShaftOnly (s t : State) : Prop := t = { s with now := t.now, csu := t.csu, miu := t.miu, issued := t.issued }

theorem ShaftOnly.refl (s : State) : ShaftOnly s s := rfl

theorem ShaftOnly.trans {s t u : State} (h : ShaftOnly s t) (k : ShaftOnly t u) : ShaftOnly s u := by
  unfold ShaftOnly at *
  rw [k, h]

theorem overdueExpiry_shaftOnly (s : State) : ShaftOnly s (overdueExpiry s) := by
  unfold overdueExpiry
  split <;> rfl

theorem lossExpiry_shaftOnly (s : State) : ShaftOnly s (lossExpiry s) := by
  unfold lossExpiry
  split
  · rfl
  · dsimp only
    split <;> rfl

theorem overdueBefore_shaftOnly (time : Nat) (s : State) : ShaftOnly s (overdueBefore time s) := by
  unfold overdueBefore
  split
  · split
    · exact overdueExpiry_shaftOnly s
    · exact ShaftOnly.refl s
  · exact ShaftOnly.refl s

theorem lossBefore_shaftOnly (time : Nat) (s : State) : ShaftOnly s (lossBefore time s) := by
  unfold lossBefore
  split
  · split
    · exact lossExpiry_shaftOnly s
    · exact ShaftOnly.refl s
  · exact ShaftOnly.refl s

/-- The shaft timers that run out before an edge change the time, MIU's record and the events alone (R33, R34). -/
theorem expireShaft_shaftOnly (time : Nat) (s : State) : ShaftOnly s (expireShaft time s) :=
  (overdueBefore_shaftOnly time s).trans (lossBefore_shaftOnly time _)

/-! ### The moment of a read -/

/-- A read is answered once: with the reading of its taken request, or with the record as it stands; an event that reads
no record changes nothing (R196; log 45). -/
theorem answerRead_cases (e : Instr) (s : State) :
    (∃ r, takenReply e s = some r ∧ answerRead e s = issue (.ownerAnswer r.1 r.2) s) ∨
    (takenReply e s = none ∧ ∃ r, readReply e s = some r ∧ answerRead e s = issue (.ownerAnswer r.1 r.2) s) ∨
    (takenReply e s = none ∧ readReply e s = none ∧ answerRead e s = s) := by
  unfold answerRead
  cases takenReply e s with
  | some r => exact .inl ⟨r, rfl, rfl⟩
  | none =>
    cases readReply e s with
    | some r => exact .inr (.inl ⟨rfl, r, rfl, rfl⟩)
    | none => exact .inr (.inr ⟨rfl, rfl, rfl⟩)

/-- A reading stands for the event that its request issued, and for no other (R196). -/
theorem takenReply_eq (e : Instr) (s : State) :
    takenReply e s = (s.mmb.reading.filter fun r => decide (r.event = e)).map fun r => (r.status, r.words) := by
  unfold takenReply
  cases s.mmb.reading with
  | none => rfl
  | some r => by_cases h : r.event = e <;> simp [h, Option.filter]

/-! ### Timers -/

/-- A frozen or suspended timer keeps its remaining time, and a resumed one runs on with it (R113, R114, R138, R143). -/
theorem resume_suspend (d : Nat) (s : State) (h : s.now ≤ d) :
    resumeTimer (suspendTimer (.running d) s) s = .running d := by
  simp [resumeTimer, suspendTimer]; omega

theorem run_freeze (d ms : Nat) (s : State) (h : s.now ≤ d) : runTimer (freezeTimer (.running d) s) ms s = .running d := by
  simp [runTimer, freezeTimer]; omega

end Sys2Proof.Machine
end

