-- ==== Sys2Proof/Laws/PerInstr.lean ====
section
/-! SUPPORT. A statement about every command, made per constructor: the expiry of a timer carries nothing that could be
out of range. -/

namespace Sys2Proof.Laws

/-- The expiry of a timer or of the divider is well-formed whatever its operands. -/
def ExpiryFits.Statement (i : Instr) : Prop := i.provenance = .expiry → i.wellFormed = true

theorem ExpiryFits.warmReset :
    ExpiryFits.Statement (.warmReset) := fun h => nomatch h

theorem ExpiryFits.powerOnRetentionKept :
    ExpiryFits.Statement (.powerOnRetentionKept) := fun h => nomatch h

theorem ExpiryFits.powerOnRetentionLost :
    ExpiryFits.Statement (.powerOnRetentionLost) := fun h => nomatch h

theorem ExpiryFits.mainSupplyLoss :
    ExpiryFits.Statement (.mainSupplyLoss) := fun h => nomatch h

theorem ExpiryFits.roundTimerExpiry :
    ExpiryFits.Statement (.roundTimerExpiry) := fun _ => rfl

theorem ExpiryFits.frameArrival (bytes : List Byte) :
    ExpiryFits.Statement (.frameArrival bytes) := fun h => nomatch h

theorem ExpiryFits.ringInIdle (bytes : List Byte) :
    ExpiryFits.Statement (.ringInIdle bytes) := fun h => nomatch h

theorem ExpiryFits.miuRoundClosure (c : Closure) :
    ExpiryFits.Statement (.miuRoundClosure c) := fun h => nomatch h

theorem ExpiryFits.shaftRisingEdge (elapsed : Nat) :
    ExpiryFits.Statement (.shaftRisingEdge elapsed) := fun h => nomatch h

theorem ExpiryFits.overdueTimerExpiry :
    ExpiryFits.Statement (.overdueTimerExpiry) := fun _ => rfl

theorem ExpiryFits.lossTimerExpiry :
    ExpiryFits.Statement (.lossTimerExpiry) := fun _ => rfl

theorem ExpiryFits.frgSampleSet (set : SampleSet) :
    ExpiryFits.Statement (.frgSampleSet set) := fun h => nomatch h

theorem ExpiryFits.frgModeNotice (old new : PlantMode) :
    ExpiryFits.Statement (.frgModeNotice old new) := fun h => nomatch h

theorem ExpiryFits.frgSecondEvent :
    ExpiryFits.Statement (.frgSecondEvent) := fun h => nomatch h

theorem ExpiryFits.frgMinuteEvent (stamp : Stamp) :
    ExpiryFits.Statement (.frgMinuteEvent stamp) := fun h => nomatch h

theorem ExpiryFits.frgClearNotice (notice : ClearNotice) :
    ExpiryFits.Statement (.frgClearNotice notice) := fun h => nomatch h

theorem ExpiryFits.plantStart :
    ExpiryFits.Statement (.plantStart) := fun h => nomatch h

theorem ExpiryFits.plantStop :
    ExpiryFits.Statement (.plantStop) := fun h => nomatch h

theorem ExpiryFits.plantTrip :
    ExpiryFits.Statement (.plantTrip) := fun h => nomatch h

theorem ExpiryFits.plantRestart :
    ExpiryFits.Statement (.plantRestart) := fun h => nomatch h

theorem ExpiryFits.plantEnterCommission :
    ExpiryFits.Statement (.plantEnterCommission) := fun h => nomatch h

theorem ExpiryFits.plantLeaveCommission :
    ExpiryFits.Statement (.plantLeaveCommission) := fun h => nomatch h

theorem ExpiryFits.tsuSecondEvent :
    ExpiryFits.Statement (.tsuSecondEvent) := fun h => nomatch h

theorem ExpiryFits.startTimerExpiry :
    ExpiryFits.Statement (.startTimerExpiry) := fun _ => rfl

theorem ExpiryFits.dwellTimerExpiry :
    ExpiryFits.Statement (.dwellTimerExpiry) := fun _ => rfl

theorem ExpiryFits.tsuSampleSet (set : SampleSet) :
    ExpiryFits.Statement (.tsuSampleSet set) := fun h => nomatch h

theorem ExpiryFits.tsuCapture (capture : Capture) :
    ExpiryFits.Statement (.tsuCapture capture) := fun h => nomatch h

theorem ExpiryFits.tsuShaftLossNotice :
    ExpiryFits.Statement (.tsuShaftLossNotice) := fun h => nomatch h

theorem ExpiryFits.tsuRoundClosure (c : Closure) :
    ExpiryFits.Statement (.tsuRoundClosure c) := fun h => nomatch h

theorem ExpiryFits.tsuBallastUpdate (update : BallastUpdate) :
    ExpiryFits.Statement (.tsuBallastUpdate update) := fun h => nomatch h

theorem ExpiryFits.tsuSecondReport (report : SecondReport) :
    ExpiryFits.Statement (.tsuSecondReport report) := fun h => nomatch h

theorem ExpiryFits.shareBand (low high : Nat) :
    ExpiryFits.Statement (.shareBand low high) := fun h => nomatch h

theorem ExpiryFits.sbuBallastUpdate (update : BallastUpdate) :
    ExpiryFits.Statement (.sbuBallastUpdate update) := fun h => nomatch h

theorem ExpiryFits.sbuSampleSet (set : SampleSet) :
    ExpiryFits.Statement (.sbuSampleSet set) := fun h => nomatch h

theorem ExpiryFits.sawClaimRequest (amount cls : Nat) :
    ExpiryFits.Statement (.sawClaimRequest amount cls) := fun h => nomatch h

theorem ExpiryFits.waitTimerExpiry (holder : Holder) :
    ExpiryFits.Statement (.waitTimerExpiry holder) := fun _ => rfl

theorem ExpiryFits.holdTimerExpiry (holder : Holder) :
    ExpiryFits.Statement (.holdTimerExpiry holder) := fun _ => rfl

theorem ExpiryFits.sbuClassNotice (holder : Holder) (cls : Nat) :
    ExpiryFits.Statement (.sbuClassNotice holder cls) := fun h => nomatch h

theorem ExpiryFits.shedPauseTimerExpiry :
    ExpiryFits.Statement (.shedPauseTimerExpiry) := fun _ => rfl

theorem ExpiryFits.restoreGapTimerExpiry :
    ExpiryFits.Statement (.restoreGapTimerExpiry) := fun _ => rfl

theorem ExpiryFits.sbuModeNotice (old new : PlantMode) :
    ExpiryFits.Statement (.sbuModeNotice old new) := fun h => nomatch h

theorem ExpiryFits.sduSampleSet (set : SampleSet) :
    ExpiryFits.Statement (.sduSampleSet set) := fun h => nomatch h

theorem ExpiryFits.sawStart :
    ExpiryFits.Statement (.sawStart) := fun h => nomatch h

theorem ExpiryFits.sawStop :
    ExpiryFits.Statement (.sawStop) := fun h => nomatch h

theorem ExpiryFits.sawClear :
    ExpiryFits.Statement (.sawClear) := fun h => nomatch h

theorem ExpiryFits.sawClaimAnswer (answer : ClaimAnswer) :
    ExpiryFits.Statement (.sawClaimAnswer answer) := fun h => nomatch h

theorem ExpiryFits.sawGranted :
    ExpiryFits.Statement (.sawGranted) := fun h => nomatch h

theorem ExpiryFits.starTimerExpiry :
    ExpiryFits.Statement (.starTimerExpiry) := fun _ => rfl

theorem ExpiryFits.deltaSettleTimerExpiry :
    ExpiryFits.Statement (.deltaSettleTimerExpiry) := fun _ => rfl

theorem ExpiryFits.confirmTimerExpiry :
    ExpiryFits.Statement (.confirmTimerExpiry) := fun _ => rfl

theorem ExpiryFits.stallTimerExpiry :
    ExpiryFits.Statement (.stallTimerExpiry) := fun _ => rfl

theorem ExpiryFits.rundownTimerExpiry :
    ExpiryFits.Statement (.rundownTimerExpiry) := fun _ => rfl

theorem ExpiryFits.permissiveChange (level : Permissive) :
    ExpiryFits.Statement (.permissiveChange level) := fun h => nomatch h

theorem ExpiryFits.sduRingDown :
    ExpiryFits.Statement (.sduRingDown) := fun h => nomatch h

theorem ExpiryFits.shedOrder :
    ExpiryFits.Statement (.shedOrder) := fun h => nomatch h

theorem ExpiryFits.noHeadroom :
    ExpiryFits.Statement (.noHeadroom) := fun h => nomatch h

theorem ExpiryFits.sduModeNotice (old new : PlantMode) :
    ExpiryFits.Statement (.sduModeNotice old new) := fun h => nomatch h

theorem ExpiryFits.sduBallastUpdate (update : BallastUpdate) :
    ExpiryFits.Statement (.sduBallastUpdate update) := fun h => nomatch h

theorem ExpiryFits.sawClass (cls : Nat) :
    ExpiryFits.Statement (.sawClass cls) := fun h => nomatch h

theorem ExpiryFits.sawLockout (on : Bool) :
    ExpiryFits.Statement (.sawLockout on) := fun h => nomatch h

theorem ExpiryFits.fcuSampleSet (set : SampleSet) :
    ExpiryFits.Statement (.fcuSampleSet set) := fun h => nomatch h

theorem ExpiryFits.feederGranted (n : Feeder) :
    ExpiryFits.Statement (.feederGranted n) := fun h => nomatch h

theorem ExpiryFits.breakerWatchTimerExpiry (n : Feeder) :
    ExpiryFits.Statement (.breakerWatchTimerExpiry n) := fun _ => rfl

theorem ExpiryFits.settleTimerExpiry (n : Feeder) :
    ExpiryFits.Statement (.settleTimerExpiry n) := fun _ => rfl

theorem ExpiryFits.tripTimerExpiry (n : Feeder) :
    ExpiryFits.Statement (.tripTimerExpiry n) := fun _ => rfl

theorem ExpiryFits.recloseTimerExpiry (n : Feeder) :
    ExpiryFits.Statement (.recloseTimerExpiry n) := fun _ => rfl

theorem ExpiryFits.feederWantOn (origin : Origin) (number : Word) :
    ExpiryFits.Statement (.feederWantOn origin number) := fun h => nomatch h

theorem ExpiryFits.feederWantOff (origin : Origin) (number : Word) :
    ExpiryFits.Statement (.feederWantOff origin number) := fun h => nomatch h

theorem ExpiryFits.feederClear (number : Word) :
    ExpiryFits.Statement (.feederClear number) := fun h => nomatch h

theorem ExpiryFits.tierNotice (n : Feeder) (tier : Tier) :
    ExpiryFits.Statement (.tierNotice n tier) := fun h => nomatch h

theorem ExpiryFits.fcuRingDown :
    ExpiryFits.Statement (.fcuRingDown) := fun h => nomatch h

theorem ExpiryFits.fcuRingUp :
    ExpiryFits.Statement (.fcuRingUp) := fun h => nomatch h

theorem ExpiryFits.fcuModeNotice (old new : PlantMode) :
    ExpiryFits.Statement (.fcuModeNotice old new) := fun h => nomatch h

theorem ExpiryFits.eauSampleSet (set : SampleSet) :
    ExpiryFits.Statement (.eauSampleSet set) := fun h => nomatch h

theorem ExpiryFits.eauMeteringReport (energy power : Nat) :
    ExpiryFits.Statement (.eauMeteringReport energy power) := fun h => nomatch h

theorem ExpiryFits.eauMinuteEvent (stamp : Stamp) :
    ExpiryFits.Statement (.eauMinuteEvent stamp) := fun h => nomatch h

theorem ExpiryFits.dayBoundary :
    ExpiryFits.Statement (.dayBoundary) := fun h => nomatch h

theorem ExpiryFits.accountReset (number : Word) :
    ExpiryFits.Statement (.accountReset number) := fun h => nomatch h

theorem ExpiryFits.dividerRollover :
    ExpiryFits.Statement (.dividerRollover) := fun _ => rfl

theorem ExpiryFits.csuMinuteEvent (stamp : Stamp) :
    ExpiryFits.Statement (.csuMinuteEvent stamp) := fun h => nomatch h

theorem ExpiryFits.calendarSet (year month day hour minute second : Word) :
    ExpiryFits.Statement (.calendarSet year month day hour minute second) := fun h => nomatch h

theorem ExpiryFits.writeEntry (table : Byte) (index : Byte) (emptyMark : Bool) (image : Image) :
    ExpiryFits.Statement (.writeEntry table index emptyMark image) := fun h => nomatch h

theorem ExpiryFits.copyActive (table : Byte) :
    ExpiryFits.Statement (.copyActive table) := fun h => nomatch h

theorem ExpiryFits.swap (table : Byte) (generation : Byte) :
    ExpiryFits.Statement (.swap table generation) := fun h => nomatch h

theorem ExpiryFits.readEntry (table : Byte) (role : Role) (index : Byte) :
    ExpiryFits.Statement (.readEntry table role index) := fun h => nomatch h

theorem ExpiryFits.readLiveQuantity (index page : Word) :
    ExpiryFits.Statement (.readLiveQuantity index page) := fun h => nomatch h

theorem ExpiryFits.readLiveRegulator (page : Word) :
    ExpiryFits.Statement (.readLiveRegulator page) := fun h => nomatch h

theorem ExpiryFits.readLivePlant (page : Word) :
    ExpiryFits.Statement (.readLivePlant page) := fun h => nomatch h

theorem ExpiryFits.readLiveClaimListEntry (index page : Word) :
    ExpiryFits.Statement (.readLiveClaimListEntry index page) := fun h => nomatch h

theorem ExpiryFits.readLiveShedListEntry (index page : Word) :
    ExpiryFits.Statement (.readLiveShedListEntry index page) := fun h => nomatch h

theorem ExpiryFits.readLiveSaw (page : Word) :
    ExpiryFits.Statement (.readLiveSaw page) := fun h => nomatch h

theorem ExpiryFits.readLiveFeeder (index page : Word) :
    ExpiryFits.Statement (.readLiveFeeder index page) := fun h => nomatch h

theorem ExpiryFits.readLiveAccount (index page : Word) :
    ExpiryFits.Statement (.readLiveAccount index page) := fun h => nomatch h

theorem ExpiryFits.readLiveCalendar (page : Word) :
    ExpiryFits.Statement (.readLiveCalendar page) := fun h => nomatch h

theorem ExpiryFits.readLiveDamagedListEntry (index page : Word) :
    ExpiryFits.Statement (.readLiveDamagedListEntry index page) := fun h => nomatch h

theorem ExpiryFits.readLiveLastCorrection (page : Word) :
    ExpiryFits.Statement (.readLiveLastCorrection page) := fun h => nomatch h

theorem ExpiryFits.summaryRead (index page : Word) :
    ExpiryFits.Statement (.summaryRead index page) := fun h => nomatch h

theorem ExpiryFits.mmbRequestRegion (region : RequestRegion) :
    ExpiryFits.Statement (.mmbRequestRegion region) := fun h => nomatch h

theorem ExpiryFits.ownerAnswer (status : Status) (words : Words) :
    ExpiryFits.Statement (.ownerAnswer status words) := fun h => nomatch h

theorem ExpiryFits.mmbRingDown :
    ExpiryFits.Statement (.mmbRingDown) := fun h => nomatch h

theorem ExpiryFits.latchNotice (cause : Cause) :
    ExpiryFits.Statement (.latchNotice cause) := fun h => nomatch h

theorem ExpiryFits.attentionRead :
    ExpiryFits.Statement (.attentionRead) := fun h => nomatch h

theorem ExpiryFits.attentionClear (causes : Word) :
    ExpiryFits.Statement (.attentionClear causes) := fun h => nomatch h

theorem ExpiryFits.attentionMask (causes : Word) :
    ExpiryFits.Statement (.attentionMask causes) := fun h => nomatch h

theorem ExpiryFits.backupSupplyLoss :
    ExpiryFits.Statement (.backupSupplyLoss) := fun h => nomatch h

end Sys2Proof.Laws
end

