-- ==== Sys2Proof/Laws/Requests.lean ====
section
/-! SUPPORT. What the codes of a request ask for: the model's routing is the table of Formats that the statements use. -/

namespace Sys2Proof.Machine

/-- A data word of a request. -/
theorem words_getD (w : Words) (i : Nat) (h : i < 8) : w.toList.getD i 0 = w[i] := by
  simp [List.getD, h]

/-- A byte of a word, as Formats numbers the bits. -/
theorem byteOf_eq (w : Word) (k : Nat) : byteOf w k = BitVec.ofNat 8 (w.toNat / 2 ^ k) := by
  apply BitVec.eq_of_toNat_eq
  simp [byteOf, BitVec.extractLsb'_toNat, Nat.shiftRight_eq_div_pow]

/-- The entry image of a WRITE-ENTRY is data words 1 to 7. -/
theorem imageOf_get (w : Words) (i : Fin 7) : (imageOf w)[i] = w[i.val + 1] := by
  match i with
  | 0 => simp [imageOf, Vec.ofFn]
  | 1 => simp [imageOf, Vec.ofFn]
  | 2 => simp [imageOf, Vec.ofFn]
  | 3 => simp [imageOf, Vec.ofFn]
  | 4 => simp [imageOf, Vec.ofFn]
  | 5 => simp [imageOf, Vec.ofFn]
  | 6 => simp [imageOf, Vec.ofFn]

theorem imageOf_iff (w : Words) (image : Image) : image = imageOf w ↔ ∀ i : Fin 7, image[i] = w[i.val + 1] := by
  constructor
  · rintro rfl i
    exact imageOf_get w i
  · intro h
    apply Vector.ext
    intro i hi
    exact (h ⟨i, hi⟩).trans (imageOf_get w ⟨i, hi⟩).symm

/-- The record kinds of READ-LIVE (Formats). -/
theorem liveEvent_iff (k : Nat) (i p : Word) (c : Instr) : liveEvent k i p = some c ↔
    ((k = 1 ∧ c = .readLiveQuantity i p) ∨ (k = 2 ∧ c = .readLiveRegulator p) ∨
     (k = 3 ∧ c = .readLivePlant p) ∨ (k = 4 ∧ c = .readLiveClaimListEntry i p) ∨
     (k = 5 ∧ c = .readLiveShedListEntry i p) ∨ (k = 6 ∧ c = .readLiveSaw p) ∨
     (k = 7 ∧ c = .readLiveFeeder i p) ∨ (k = 8 ∧ c = .readLiveAccount i p) ∨
     (k = 9 ∧ c = .readLiveCalendar p) ∨ (k = 10 ∧ c = .readLiveDamagedListEntry i p) ∨
     (k = 11 ∧ c = .readLiveLastCorrection p)) := by
  unfold liveEvent
  split <;> simp_all [eq_comm]

/-- The actions of PLANT (R62; Formats). -/
theorem plantEvent_iff (k : Nat) (c : Instr) : plantEvent k = some c ↔
    (k = 1 ∧ c = .plantStart) ∨ (k = 2 ∧ c = .plantStop) ∨ (k = 3 ∧ c = .plantTrip) ∨ (k = 4 ∧ c = .plantRestart) ∨
    (k = 5 ∧ c = .plantEnterCommission) ∨ (k = 6 ∧ c = .plantLeaveCommission) := by
  unfold plantEvent
  split <;> simp_all [eq_comm]

/-- The actions of SAW (R126; Formats). -/
theorem sawEvent_iff (k : Nat) (c : Instr) : sawEvent k = some c ↔
    (k = 1 ∧ c = .sawStart) ∨ (k = 2 ∧ c = .sawStop) ∨ (k = 3 ∧ c = .sawClear) := by
  unfold sawEvent
  split <;> simp_all [eq_comm]

/-- The actions of FEEDER (R145; Formats). -/
theorem feederEvent_iff (n : Word) (k : Nat) (c : Instr) : feederEvent n k = some c ↔
    (k = 1 ∧ c = .feederWantOn .management n) ∨ (k = 2 ∧ c = .feederWantOff .management n) ∨
    (k = 3 ∧ c = .feederClear n) := by
  unfold feederEvent
  split <;> simp_all [eq_comm]

/-- A request is handed on as the command that its codes ask for, and one whose codes ask for none is not (R187; Formats;
log 53). -/
theorem requestEvent_iff (kind : Nat) (w : Words) (c : Instr) : requestEvent kind w = some c ↔ Asks kind w c := by
  have hb : BitVec.ofNat 8 (w[0].toNat % 2 ^ 8) = byteOf w[0] 0 := by
    apply BitVec.eq_of_toNat_eq; simp [byteOf]
  have h16 : decide (w[0].toNat / 2 ^ 16 % 2 = 1) = w[0].getLsbD 16 := by
    simp [BitVec.getLsbD, Nat.testBit_eq_decide_div_mod_eq]
  unfold requestEvent Asks
  dsimp only
  rw [hb, h16, ← byteOf_eq]
  simp only [words_getD w 0 (by decide), words_getD w 1 (by decide), words_getD w 2 (by decide), words_getD w 3 (by decide),
    words_getD w 4 (by decide), words_getD w 5 (by decide)]
  split <;> simp only [liveEvent_iff, plantEvent_iff, sawEvent_iff, feederEvent_iff, Option.some.injEq, Nat.reduceEqDiff,
    false_and, true_and, false_or, or_false, eq_comm (b := c), reduceCtorEq]
  · constructor
    · intro h; exact ⟨imageOf w, imageOf_get w, h⟩
    · rintro ⟨image, hi, h⟩
      rw [h, (imageOf_iff w image).2 hi]
  · simp_all

/-- A request that is not handed on asks for no command. -/
theorem not_asks {kind : Nat} {w : Words} (h : requestEvent kind w = none) (c : Instr) : ¬Asks kind w c := fun ha => by
  have := (requestEvent_iff kind w c).2 ha
  simp [h] at this

end Sys2Proof.Machine
end

