-- ==== Sys2Proof/Tests/Slice0.lean ====
section
/-! SUPPORT. Tests: an ill-formed term for each well-formedness check, the manual's worked figures, single commands on
small states, and for each statement a state and operands that meet its hypotheses. -/

set_option maxRecDepth 40000

namespace Sys2Proof.Tests

open Sys2Proof Sys2Proof.Machine

/-! ### Helpers -/

/-- An image of the given data words. -/
def image (l : List Nat) : Image := Vec.ofFn fun i => BitVec.ofNat 32 (l.getD i.val 0)

/-- A state with a GOOD entry in the active bank of a table. -/
def withEntry (t : TableId) (i : Nat) (img : Image) (s : State) : State :=
  storeEntry t (table t s).active i (some (.good img .clean)) s

/-- A command runs to a next state that passes a check. -/
def runs (c : Instr) (s : State) (p : State → Bool) : Bool :=
  match exec c s with
  | .next t => p t
  | .fault _ => false
  | .refused _ => false

/-- A step answers a next state. -/
def goesOn (s : State) : Bool :=
  match step s with
  | .next _ => true
  | .fault _ => false
  | .refused _ => false

/-- The reset state in a plant mode. -/
def inMode (m : PlantMode) : State := { State.reset with tsu := { State.reset.tsu with mode := m } }

/-- The modes of the plant. -/
def modes : List PlantMode := [.standby, .starting, .run, .stopping, .tripped, .commission]

/-- RUN with the saw in a state. -/
def sawIn (x : SawState) : State :=
  { inMode .run with sdu := { State.reset.sdu with state := x, permissive := .closed } }

/-- The states of the saw. -/
def sawStates : List SawState := [.stopped, .queued, .star, .delta, .run, .rundown, .fault]

/-- RUN with a feeder in a state. -/
def feederIn (n : Feeder) (x : FeederState) : State :=
  setFeeder n { feeder n State.reset with state := x } (inMode .run)

/-- The states of a feeder. -/
def feederStates : List FeederState := [.off, .shed, .restoring, .closing, .on, .tripped, .locked]

/-- A fresh record of a value. -/
def fresh (kind : SampleKind) (inst v : Nat) : SetRecord :=
  { use := some (kind, inst)
    record := { QRecord.reset with
      value := some v, hold := 3, freq := if kind = .cyclePeriod then some (cycleFrequency v) else none } }

/-- A sample set of round 1 at 10 ms with the given records and a shaft state. -/
def setOf (l : List SetRecord) (x : QState) : SampleSet :=
  { round := 1, period := 10
    records := Vec.ofFn fun k => l.getD k.val { use := none, record := QRecord.reset }
    shaft := { started := true, refTime := 0, tt := some 25000, speed := some 600, fShaft := some 50000, state := x
               overdue := .stopped, loss := .stopped } }

/-- The entries of the manual's worked sequences, packed by hand from the field tables (R79, R78, R107, R83, R128). -/
def turbineImage : Image := image [0x0840A040, 0xE115E140, 0x140A2896, 0x57901900, 0x190B4000, 0x12C04B00]
def protectionImage : Image := image [0x02B202EE, 0x003C0000, 0x6B6C40B0, 0x9E203000, 0x1F400000, 0x00000040]
def sawImage : Image := image [0x91944300, 0x1F4144B0, 0x4B1C2000, 0x2EE09600, 0x3840FA00, 0x1F400000]
def balanceImage : Image := image [0x0FA04B00, 0x19020FA0, 0x285DC140, 0x0F03C0F0, 0x0F03C0F0, 0x0F03C000]
def feederImage : Image := image [0x83000640, 0x032007D0, 0x001E000A, 0x000003E8]
def cycleSlot : Image := image [0x41000000, 0x04000000, 0x00000003]

/-! ### Well-formed commands: an ill-formed term for each check -/

theorem test_wf_frame : (Instr.frameArrival [0xA6#8]).wellFormed = false := by decide
theorem test_wf_idle : (Instr.ringInIdle []).wellFormed = false := by decide
theorem test_wf_closure_round :
    (Instr.miuRoundClosure (.accepted (Vec.ofFn fun _ => emptySlot) .up 256 10)).wellFormed = false := by decide
theorem test_wf_closure_period :
    (Instr.tsuRoundClosure (.accepted (Vec.ofFn fun _ => emptySlot) .up 3 11)).wellFormed = false := by decide
theorem test_wf_set_age :
    (Instr.frgSampleSet (setOf [{ use := none, record := { QRecord.reset with age := 256, value := some 1 } }] .never)).wellFormed
      = false := by decide
theorem test_wf_set_hold :
    (Instr.eauSampleSet (setOf [{ use := none, record := { QRecord.reset with hold := 33 } }] .never)).wellFormed
      = false := by decide
theorem test_wf_mode_notice : (Instr.frgModeNotice .run .run).wellFormed = false := by decide
theorem test_wf_stamp :
    (Instr.frgMinuteEvent
      { year := 2025, month := 13, day := 1, hour := 0, minute := 0, weekday := .monday, valid := true }).wellFormed
      = false := by decide
theorem test_wf_capture : (Instr.tsuCapture { tt := 49, speed := 600, fShaft := 50000 }).wellFormed = false := by decide
theorem test_wf_update :
    (Instr.sbuBallastUpdate { round := 0, state := .hold, source := .none, freq := none, fSet := 50000, demand := 2, capacity := 1, floorHits := 0, ceilingHits := 0 }).wellFormed = false := by decide
theorem test_wf_report :
    (Instr.tsuSecondReport { sum := 0, count := 0, capacity := 160001, ceilingHits := 0 }).wellFormed = false := by decide
theorem test_wf_share : (Instr.shareBand 0 1001).wellFormed = false := by decide
theorem test_wf_claim : (Instr.sawClaimRequest 65536 0).wellFormed = false := by decide
theorem test_wf_class : (Instr.sawClass 8).wellFormed = false := by decide
theorem test_wf_metering : (Instr.eauMeteringReport 3200001 0).wellFormed = false := by decide
theorem test_wf_feeder : (Instr.feederClear 13).wellFormed = false := by decide
theorem test_wf_account : (Instr.accountReset 0).wellFormed = false := by decide
theorem test_wf_calendar : (Instr.calendarSet 2100 1 1 0 0 0).wellFormed = false := by decide
theorem test_wf_table : (Instr.swap 12 0).wellFormed = false := by decide
theorem test_wf_quantity : (Instr.readLiveQuantity 65 0).wellFormed = false := by decide
theorem test_wf_claim_entry : (Instr.readLiveClaimListEntry 13 0).wellFormed = false := by decide
theorem test_wf_damaged_entry : (Instr.readLiveDamagedListEntry 16 0).wellFormed = false := by decide
theorem test_wf_summary : (Instr.summaryRead 60 0).wellFormed = false := by decide
theorem test_wf_attention : (Instr.attentionClear 0x00200000#32).wellFormed = false := by decide
theorem test_wf_accepts : (Instr.calendarSet 2099 12 31 23 59 59).wellFormed = true := by decide

/-- No row of the table has bits, so no word spells a command. -/
theorem test_no_word_is_a_command : decodeTableWord 8 0xFF = none ∧
    State.reset.withFetchWord 8 0xFF = State.reset := by decide

/-! ### Reset (00_scope, Resets; R14, R37, R60, R106, R127, R162, R183) -/

theorem test_reset_is_a_power_on : powerOnLost State.reset = State.reset := by decide
theorem test_reset_latches_retain_lost : State.reset.mmb.latch = 3#21 := by decide

/-! ### The round frame -/

/-- R3: the nine ASCII bytes of "123456789" give 29B1. -/
theorem test_crc_of_the_check_string :
    crc16 [0x31#8, 0x32#8, 0x33#8, 0x34#8, 0x35#8, 0x36#8, 0x37#8, 0x38#8, 0x39#8] = 0x29B1#16 := by decide

/-- 01, example of one emission: a withdrawn command leaves EMPTY in UP and with its safe value, HELD, in DOWN. -/
theorem test_slot_of_a_withdrawn_command :
    let trim := image [0x82000000]
    composeSlot State.reset.rif.holding .up (.good trim) = emptySlot ∧
    composeSlot State.reset.rif.holding .down (.good trim) = { raw := 0, quality := .held } := by decide

/-- 01, worked sequence: the fourth accepted round in a row brings the ring up, the third bad one down. -/
theorem test_ring_up_and_down :
    (countClosure true { State.reset with rif := { State.reset.rif with goodRun := 3 } }).rif.ring = .up ∧
    (countClosure true { State.reset with rif := { State.reset.rif with goodRun := 2 } }).rif.ring = .down ∧
    (countClosure false { State.reset with rif := { State.reset.rif with ring := .up, badRun := 2 } }).rif.ring
      = .down := by decide

/-- 01: the first expiry after a reset emits round 0 at 10 ms. -/
theorem test_first_round_is_0 :
    runs .roundTimerExpiry State.reset (fun t =>
      t.rif.lastRound = 0 && t.now = 10000 && t.rif.roundTimer = .running 20000 && t.rif.outstanding.isSome) = true := by
  decide

/-! ### Measurement intake -/

/-- R23, table: raw, multiplier, offset and result. -/
theorem test_conversions :
    (2355 * 1000 + 512) / 1024 = 2300 ∧ ((150 * 2048 + 512) / 1024 : Int) + (-20) = 280 ∧
    (19960 * 1024 + 512) / 1024 = 19960 ∧ (700 * 1536 + 512) / 1024 = 1050 := by decide

/-- R23, R24: FOREBAY-LEVEL raw 5 with offset -20 is taken as 0, at the limit; a SAW-BUTTON of 3 is discarded. -/
theorem test_take_clamps_and_rejects :
    (let s := withEntry .slotMap 1 (image [0x4C000000, 0x0400FFEC, 0x00000003]) State.reset
     runs (.miuRoundClosure (.accepted (Vec.ofFn fun _ => { raw := 5, quality := .good }) .up 3 10)) s
       (fun t => t.miu.records[0].value = some 0 && t.miu.records[0].atLimit) = true) ∧
    (let s := withEntry .slotMap 1 (image [0x4B000000, 0x04000000, 0x00000003]) State.reset
     runs (.miuRoundClosure (.accepted (Vec.ofFn fun _ => { raw := 3, quality := .good }) .up 3 10)) s
       (fun t => t.miu.records[0].value = none) = true) := by decide

/-- R28, table. -/
theorem test_cycle_frequencies :
    [10000, 19960, 19980, 19990, 20000, 20010, 40000].map cycleFrequency =
      [100000, 50100, 50050, 50025, 50000, 49975, 25000] := by decide

/-- R32, table: four teeth, two pole pairs, belt 5/2; 24,000 us give 625 rpm and 52,083 mHz. -/
theorem test_capture_scales :
    let s := withEntry .turbine 1 turbineImage
      { State.reset with miu := { State.reset.miu with shaft := { State.reset.miu.shaft with started := true } } }
    runs (.shaftRisingEdge 24000) s (fun t =>
      t.miu.shaft.speed = some 625 && t.miu.shaft.fShaft = some 52083 && t.miu.shaft.overdue = .running 72000) = true ∧
    runs (.shaftRisingEdge 49) s (fun t => t.miu.shaft.refTime = 0 && t.now = 49) = true := by decide

/-! ### The regulator -/

/-- 03, worked sequence of the PI law, sets 2 and 4: the remainder carries between sets. -/
theorem test_pi_law :
    let at2 := { State.reset with
      frg := { State.reset.frg with demand := 3225, remainder := 0, lastError := some 100, kp := 512, ki := 64, capacity := 8500 } }
    let at4 := { State.reset with
      frg := { State.reset.frg with demand := 3037, remainder := 128, lastError := some 0, kp := 512, ki := 64, capacity := 8500 } }
    (piLaw 50 at2).frg.demand = 3137 ∧ (piLaw 50 at2).frg.remainder = 128 ∧
    (piLaw (-25) at4).frg.demand = 2981 ∧ (piLaw (-25) at4).frg.remainder = 64 := by decide

/-- 03, reaching the floor, set 2. -/
theorem test_pi_floor :
    let s := { State.reset with
      frg := { State.reset.frg with demand := 26, remainder := 64, lastError := some (-495), kp := 512, ki := 64, capacity := 8500 } }
    (piLaw (-495) s).frg.demand = 0 ∧ (piLaw (-495) s).frg.remainder = 0 ∧ (piLaw (-495) s).frg.floorSticky = true := by
  decide

/-- 03, worked sequence of composition, set d without its fault: steps of 4,000, 2,000, 1,000 and 500 W, a trim of
1,000 W, and a demand of 4,225 W in HOLD. -/
def fittedBallast : State :=
  let s := withEntry .ballast 5 (image [0xC00003E8]) (withEntry .ballast 4 (image [0x800001F4])
    (withEntry .ballast 3 (image [0x800003E8]) (withEntry .ballast 2 (image [0x800007D0])
      (withEntry .ballast 1 (image [0x80000FA0]) (withEntry .regulator 1 (image [0xC3500200, 0x00400000]) State.reset)))))
  { s with frg := { s.frg with demand := 4225 } }

/-- Set c: rebuilt to element 1 alone, trim share 57, and 42,236 or 42,235 W·ms by the carry (here from 0). -/
theorem test_composition_and_metering :
    runs (.frgSampleSet (setOf [] .never)) fittedBallast (fun t =>
      t.frg.capacity = 8500 && t.frg.state = .hold && t.frg.stepSum = 4000 && t.frg.trimShare = 57 &&
      t.frg.carry = 75 && t.issued.contains (.eauMeteringReport 42235 4223)) = true := by decide

/-- R40, R52: a trip puts the whole capacity into ballast. -/
theorem test_trip_forces_full_ballast :
    runs (.frgModeNotice .run .tripped) fittedBallast (fun t =>
      t.frg.demand = 8500 && t.frg.trimShare = 255 && t.frg.stepSum = 7500) = true := by decide

/-- 03, closing a minute: 18,004,115 W over 5,990 sets average 3,006 W. -/
theorem test_minute_average :
    let s := { State.reset with
      frg := { State.reset.frg with minute := { MinuteAcc.empty with sum := 18004115, count := 5990 } } }
    runs (.frgMinuteEvent { year := 2025, month := 6, day := 14, hour := 14, minute := 7, weekday := .saturday, valid := true }) s
      (fun t => (t.frg.summary.map (·.average)) = [3006] && t.frg.minute.count = 0) = true := by decide

/-! ### The plant -/

/-- R79, R193: the TURBINE entry of the worked sequences in its packing. -/
theorem test_turbine_image :
    let v := turbineEntry turbineImage
    (v.teeth, v.polePairs, v.beltNum, v.beltDen, v.gateMax, v.startOpening, v.openRamp) = (4, 2, 5, 2, 900, 350, 20) ∧
    (v.closeStep, v.shareLow, v.shareHigh, v.kCeiling, v.inBandWidth) = (10, 150, 350, 4, 200) ∧
    (v.nInBand, v.startLimit, v.lowMark, v.hysteresis) = (100, 180, 1200, 150) ∧ validTurbine v = true := by decide

/-- 04, six seconds of trim, reports 1 and 4. -/
def trimming : State :=
  let s := inMode .run
  { s with tsu := { s.tsu with turbine := turbineEntry turbineImage, turbineState := .good, gate := 600 } }

theorem test_gate_trim :
    runs (.tsuSecondReport { sum := 420000, count := 100, capacity := 8500, ceilingHits := 0 }) trimming
      (fun t => t.tsu.gate = 590) = true ∧
    runs (.tsuSecondReport { sum := 780000, count := 100, capacity := 8500, ceilingHits := 5 }) trimming
      (fun t => t.tsu.gate = 580) = true := by decide

/-- 04, overspeed trip, capture 7: the third consecutive capture at or above 750 rpm trips the plant. -/
theorem test_overspeed_trip :
    let s := withEntry .protection 1 protectionImage (inMode .run)
    runs (.tsuCapture { tt := 18600, speed := 806, fShaft := 67204 })
      { s with tsu := { s.tsu with overspeed := 2, alarmArmed := false } } (fun t =>
      t.tsu.mode = .tripped && t.tsu.tripCause = some .overspeed && t.rif.holding.tripRepeat = some 1) = true := by decide

theorem test_plant_trip_and_restart_refusals :
    runs .plantTrip (inMode .run) (fun t => t.tsu.tripLatch && t.tsu.tripCause = some .manual && tripOutput t) = true ∧
    runs .plantStart (inMode .standby) (fun t => t.issued = [plainAnswer .notLoaded]) = true := by decide

/-! ### The balance -/

/-- 05, a dry afternoon: at 49,150 mHz with 4 floor hits the saw, level with feeder 7 in class 5, goes first. -/
def dryAfternoon (saw : SawState) : State :=
  let s := withEntry .balance 1 balanceImage (sawIn saw)
  setFeeder 6 { feeder 6 s with state := .on, cls := 5 }
    (setFeeder 0 { feeder 0 s with state := .on, cls := 1 } { s with sdu := { s.sdu with cls := 5 } })

def deficit : BallastUpdate :=
  { round := 0, state := .tracking, source := .alternator, freq := some 49150, fSet := 50000, demand := 0,
    capacity := 8500, floorHits := 4, ceilingHits := 0 }

theorem test_deficit_sheds_the_saw_first :
    runs (.sbuBallastUpdate deficit) (dryAfternoon .run) (fun t =>
      t.issued.contains .shedOrder && t.sbu.shedPause = .running 2000000 && t.sbu.shedList = []) = true := by decide

theorem test_deficit_sheds_the_highest_class :
    runs (.sbuBallastUpdate deficit) (dryAfternoon .stopped) (fun t =>
      (t.sbu.shedList.map (·.feeder)) = [6] && (feeder 6 t).state = .shed && (feeder 0 t).state = .on) = true := by decide

/-- A queue with one claim of 1,200 W at class 1. -/
def waiting : State :=
  let s := withEntry .balance 1 balanceImage (inMode .run)
  let s := setFeeder 0 { feeder 0 s with state := .restoring, underRestore := true } s
  { s with sbu := { s.sbu with
      restoring := some 0
      queue := [{ holder := .feeder 0, cls := 1, amount := 1200, state := .queued 0 60000, order := 1 }] } }

/-- 05, bringing the hamlet on: at 6,000 W of demand and 50,010 mHz the claim is granted; at 49,690 mHz it is not. -/
def calm (f : Nat) : BallastUpdate :=
  { round := 0, state := .tracking, source := .alternator, freq := some f, fSet := 50000, demand := 6000, capacity := 8500,
    floorHits := 0, ceilingHits := 0 }

theorem test_grant :
    runs (.sbuBallastUpdate (calm 50010)) waiting (fun t =>
      t.sbu.queue = [] && t.issued.contains (.feederGranted 0) && headroom t == 4300) = true ∧
    runs (.sbuBallastUpdate (calm 49690)) waiting (fun t => t.sbu.granted = [] && t.issued = []) = true := by decide

/-- A plant with its PROTECTION values and a shaft record of a state and a speed. -/
def shaftAt (m : PlantMode) (x : QState) (speed : Nat) : State :=
  let s := inMode m
  { s with
    tsu := { s.tsu with protection := some (protectionEntry protectionImage) }
    miu := { s.miu with shaft := { s.miu.shaft with state := x, speed := some speed } } }

/-- Feeder 7 waits in the shed list with 700 W, and the line stands at 230.0 V. -/
def toRestore : State :=
  let s := shaftAt .run .fresh 600
  let s := withEntry .balance 1 balanceImage
    (setFeeder 6 { feeder 6 s with state := .shed, cls := 5, preShed := 700, values := some (feederEntry feederImage) } s)
  { s with sbu := { s.sbu with
      voltage := some 2300, voltageSt := .fresh, shedList := [{ feeder := 6, cls := 5, reason := .deficit, order := 1 }] } }

/-! ### The saw -/

/-- 06, worked case of the derate, near set 2 (49,099 mHz from a period of 20,367 us), and set 1. -/
def sawing : State :=
  let s := withEntry .saw 1 sawImage (sawIn .run)
  { s with sdu := { s.sdu with contactor := .delta, fSetView := 50000 } }

/-- The records of a set in the derate: a cycle period, FEED-SETPOINT 800, SAW-CURRENT, contactor 2, button 0. -/
def cutting (t i : Nat) : SampleSet :=
  setOf [fresh .cyclePeriod 0 t, fresh .feedSetpoint 0 800, fresh .sawCurrent 0 i, fresh .sawContactor 0 2,
    fresh .sawButton 0 0] .stale

theorem test_derate :
    runs (.sduSampleSet (cutting 20367 330)) sawing (fun t =>
      t.sdu.factorF = some 732 && t.sdu.factorI = some 800 && t.sdu.feed = 585) = true ∧
    runs (.sduSampleSet (cutting 20121 280)) sawing (fun t => t.sdu.feed = 800) = true := by decide

/-- R114: a current at the trip current faults the saw. -/
theorem test_instantaneous_trip :
    runs (.sduSampleSet (cutting 20000 1800)) sawing (fun t =>
      t.sdu.state = .fault && t.sdu.reason = .overcurrent && t.sdu.feed = 0 && t.rif.holding.sawContactor = some 0)
      = true := by decide

/-- 06, a guard opened during the start. -/
theorem test_permissive_faults_the_start :
    runs (.permissiveChange .opened) (sawIn .star) (fun t => t.sdu.state = .fault && t.sdu.reason = .permissive) = true ∧
    runs (.permissiveChange .opened) (sawIn .rundown) (fun t => t.sdu.state = .rundown && t.permissivePin = .opened)
      = true := by decide

/-! ### The feeders -/

/-- R128: the image of feeder 5 of the worked sequence. -/
theorem test_feeder_image :
    feederEntry feederImage = ⟨true, 3, 1600, 800, 2000, 30, 10, 0, 1000⟩ := by decide

/-- 07, a trip, a reclose and a lockout: the first trip leads to a reclose 30 s later, one within 10 min to LOCKED. -/
def served (last : Option Nat) : State :=
  let s := inMode .run
  setFeeder 4 { feeder 4 s with
    state := .on, values := some (feederEntry feederImage), entryState := .good, lastTrip := last
    trip := .running 302300000 } s

theorem test_first_trip_recloses :
    runs (.tripTimerExpiry 4) (served none) (fun t =>
      (feeder 4 t).state = .tripped && (feeder 4 t).reclose = .running 332300000) = true := by decide

theorem test_second_trip_locks :
    runs (.tripTimerExpiry 4) (served (some 2000000)) (fun t =>
      (feeder 4 t).state = .locked && t.issued.contains (.latchNotice .feederLocked)) = true := by decide

/-- R131 row OFF: a servable feeder joins at WANT-ON in RUN. -/
theorem test_want_on_joins :
    let s := setFeeder 4 { feeder 4 (served none) with state := .off } (served none)
    runs (.feederWantOn .management 5) s (fun t =>
      (feeder 4 t).state = .shed && (feeder 4 t).desired && (t.sbu.shedList.map (·.feeder)) = [4]) = true := by decide

/-! ### Energy accounts -/

/-- 08, an allowance spent: the first set of the worked sequence. -/
theorem test_carry_and_allowance :
    let s := setFeeder 2 { feeder 2 State.reset with
      values := some { feederEntry feederImage with allowance := 2000, reducedLimit := 600 } } State.reset
    let s := { s with eau := { s.eau with
      accounts := s.eau.accounts.set 2
        { Account.zero with standard := 812400, peak := 95310, daily := 1999, remainder := 3590000 } } }
    runs (.eauSampleSet (setOf [fresh .feederPower 3 1500] .never)) s (fun t =>
      account 2 t = { Account.zero with standard := 812401, peak := 95310, daily := 2000, remainder := 5000 } &&
      t.eau.tiers[2] = .reduced && t.issued.contains (.tierNotice 2 .reduced)) = true := by decide

/-- 08, evaluating the band: 17:00 on a workday with slot 34 PEAK, and STANDARD when the entry is missing. -/
theorem test_band :
    let wednesday : Stamp :=
      { year := 2025, month := 12, day := 24, hour := 17, minute := 0, weekday := .wednesday, valid := true }
    runs (.eauMinuteEvent wednesday) (withEntry .tariff 35 (image [0x80000000]) State.reset)
      (fun t => t.eau.band = .peak && t.eau.slot = some 34 && t.eau.dayType = some .workday) = true ∧
    runs (.eauMinuteEvent wednesday) State.reset
      (fun t => t.eau.band = .standard && t.eau.basis = .entryNotGood) = true := by decide

/-- 08: 25 December in HOLIDAYS makes a Thursday REST. -/
theorem test_holiday :
    runs (.eauMinuteEvent
        { year := 2025, month := 12, day := 25, hour := 20, minute := 30, weekday := .thursday, valid := true })
      (withEntry .holidays 1 (image [0xCC800000]) State.reset)
      (fun t => t.eau.dayType = some .rest && t.eau.slot = some 41) = true := by decide

/-! ### Calendar and schedule -/

/-- R163: 2025-06-14 lies 9,296 days after 2000-01-01, a Saturday; 2025-02-29 is refused and 2024-02-29 is taken. -/
theorem test_calendar_set :
    daysSince2000 2025 6 14 = 9296 ∧
    runs (.calendarSet 2025 6 14 5 59 50) State.reset (fun t =>
      t.csu.weekday = .saturday && t.csu.valid && t.csu.divider = 0 && t.issued = [plainAnswer .done]) = true ∧
    runs (.calendarSet 2025 2 29 0 0 0) State.reset (fun t => t.issued = [plainAnswer .badArgument]) = true ∧
    runs (.calendarSet 2024 2 29 0 0 0) State.reset (fun t => t.issued = [plainAnswer .done]) = true := by decide

/-- R160: after 2099-12-31 23:59:59 comes 2000-01-01 00:00:00, a Saturday. -/
theorem test_calendar_wraps :
    let s := { State.reset with csu := { State.reset.csu with
      year := 2099, month := 12, day := 31, hour := 23, minute := 59, second := 59, weekday := .thursday } }
    runs .dividerRollover s (fun t =>
      t.csu.year = 2000 && t.csu.month = 1 && t.csu.day = 1 && t.csu.hour = 0 && t.csu.second = 0 &&
      t.csu.weekday = .saturday) = true := by decide

/-- R167: FEEDER-WANT-ON 9 in entry 2 and FEEDER-WANT-OFF 9 in entry 5, at 06:00 every day, run in entry order. -/
theorem test_schedule_order :
    let s := withEntry .schedule 5 (image [0x006FFF84, 0x90000000])
      (withEntry .schedule 2 (image [0x006FFF80, 0x90000000])
        (setFeeder 8 { feeder 8 State.reset with values := some (feederEntry feederImage), entryState := .good } State.reset))
    runs (.csuMinuteEvent { year := 2025, month := 6, day := 14, hour := 6, minute := 0, weekday := .saturday, valid := true }) s
      (fun t => t.issued = [.feederWantOn .schedule 9, .feederWantOff .schedule 9]) = true := by decide

/-! ### The table store -/

/-- 10: a write reaches the standby bank, and a repeat of a taken SWAP changes nothing. -/
theorem test_write_then_swap :
    runs (.writeEntry 8 1 false balanceImage) State.reset (fun t =>
      entryAt .balance .bankB 1 t = some (.good balanceImage .clean) && entryAt .balance .bankA 1 t = none &&
      runs (.swap 8 0) t (fun u => (table .balance u).pending && (table .balance u).generation = 1 &&
        runs (.swap 8 0) u (fun v => (table .balance v).generation = 1))) = true := by decide

/-- 10, a damaged BALANCE entry: a double error found by a ballast update degrades SBU and is listed. -/
theorem test_double_error_is_listed :
    runs (.sbuBallastUpdate (calm 50010))
      (storeEntry .balance .bankA 1 (some (.good balanceImage .double)) (inMode .run)) (fun t =>
      t.sbu.degraded && t.tbs.damagedList = [⟨.balance, .bankA, 1⟩] &&
      t.issued.contains (.latchNotice .tableDamaged)) = true := by decide

/-- R177: a single-bit error is corrected in the same action. -/
theorem test_single_error_is_corrected :
    runs (.readEntry 8 .active 1) (storeEntry .balance .bankA 1 (some (.good balanceImage (.single 5))) State.reset)
      (fun t => entryAt .balance .bankA 1 t = some (.good balanceImage .clean) && t.tbs.corrections = 1) = true := by decide

/-- R194: a direction code of 3 is not encodable, and a slot of an unused direction is. -/
theorem test_encodable :
    encodable .slotMap 1 (image [0xC0000000]) = false ∧ encodable .slotMap 1 (image [0x3F000000]) = true ∧
    encodable .tariff 1 (image [0xC0000000]) = false ∧ argumentCoded 3 1024 = true ∧ argumentCoded 3 2048 = false := by
  decide

/-! ### Mailbox -/

/-- A request region of a position, with a kind. -/
def region (owner kind eligible : Nat) : RequestRegion :=
  { owner := BitVec.ofNat 8 owner, tag := 3, kind := BitVec.ofNat 8 kind, words := wordsOf [], eligibleFrom := eligible }

/-- 11, rotation, refusal and a repeat: with PROTECTION allowing position 6 alone, position 14 is refused. -/
theorem test_authorisation :
    let s := withEntry .protection 1 protectionImage State.reset
    runs (.mmbRequestRegion (region 6 12 1)) s (fun t =>
      t.mmb.eligibleFrom = 7 && t.mmb.outstanding = some (6, 3) && t.issued = [.attentionRead]) = true ∧
    runs (.mmbRequestRegion (region 14 14 7)) s (fun t =>
      t.mmb.eligibleFrom = 15 && (t.mmb.response.map (·.status)) = some .refusedAuth) = true := by decide

theorem test_attention :
    runs (.latchNotice .shed) State.reset (fun t => attentionMarker t.mmb && t.mmb.latch.getLsbD 11) = true ∧
    runs (.attentionClear 3) State.reset (fun t => t.mmb.latch = 0 && !attentionMarker t.mmb) = true := by decide

/-! ### The step -/

theorem test_step_takes_the_front :
    step { State.reset with pending := [.sawStop, .sawStart] } = exec .sawStop { State.reset with pending := [.sawStart] } :=
  rfl

theorem test_idle_step_goes_on : goesOn State.reset = true := rfl

/-- A due timer expires in the step of an empty queue. -/
theorem test_due_timer_expires :
    goesOn { State.reset with now := 10000 } = true ∧
    (dueCommands { State.reset with now := 10000 }) = [.roundTimerExpiry] ∧
    (dueCommands { State.reset with now := 9999 }) = [] := by decide

/-! ### Witnesses: for each statement with hypotheses, a state and operands that meet them -/

/-- The reset state with a command waiting. -/
def queued (c : Instr) : State := { State.reset with pending := [c] }

/-- The state after a command, where it runs. -/
def after (c : Instr) (s : State) : State :=
  match exec c s with
  | .next t => t
  | .fault _ => s
  | .refused _ => s

/-- The reset state with the main supply absent. -/
def unpowered : State := { State.reset with mainPresent := false }

theorem witness_StepRunsTheFrontCommand : (queued .sawStop).pending = .sawStop :: [] := rfl

theorem witness_EmptyQueueGoesOn :
    State.reset.pending = [] ∧ State.reset.issued = [] ∧ dueCommands State.reset = [] ∧
    (issue .sawStop State.reset).pending = [] ∧ (issue .sawStop State.reset).issued = [.sawStop] ∧
    dueCommands { State.reset with now := 10000 } = [.roundTimerExpiry] := by decide

theorem witness_UnpoweredPartStandsStill :
    unpowered.mainPresent = false ∧ Instr.sawStop ≠ .powerOnRetentionKept ∧ Instr.sawStop ≠ .powerOnRetentionLost ∧
    Instr.sawStop ≠ .mainSupplyLoss ∧ Instr.sawStop ≠ .backupSupplyLoss ∧ Instr.sawStop ≠ .dividerRollover ∧
    ∀ level, Instr.sawStop ≠ .permissiveChange level :=
  ⟨rfl, by decide, by decide, by decide, by decide, by decide, fun _ h => nomatch h⟩

theorem witness_UnpoweredPartStandsStill_rows :
    let dark := { unpowered with retentionHeld := false }
    dark.mainPresent = false ∧ calendarCounts dark = false ∧ calendarCounts unpowered = true ∧
    runs (.permissiveChange .closed) unpowered (fun t => t.permissivePin = .closed && t.sdu.permissive = .opened) = true := by
  decide

theorem witness_StartsKeepTheRetainedDomain :
    State.reset.mainPresent = true ∧ State.reset.retentionHeld = true ∧
    (after .plantTrip (inMode .run)).tsu.tripLatch = true ∧ State.reset.tsu.tripLatch = false := by decide

/-- R176, R179: the reads of a start find TURBINE GOOD, SLOT MAP EMPTY and a damaged SAW bank whose swap was pending. -/
theorem witness_StartsKeepTheRetainedDomain_tables :
    let s := storeEntry .saw .bankB 1 (some (.good sawImage .double)) (withEntry .turbine 1 turbineImage State.reset)
    let s := setTable .saw { table .saw s with pending := true } s
    TablesCanonical s ∧ activeReads .turbine 1 s = .good turbineImage ∧ readStatus (activeReads .slotMap 0 s) ≠ .good ∧
    ownerReads .saw 1 s = .damaged ∧
    runs .warmReset s (fun t =>
      (table .saw t).active = .bankB && !(table .saw t).pending && t.tbs.damagedList = [⟨.saw, .bankB, 1⟩] &&
      t.sdu.entryState = .damaged && t.tsu.turbine.gateMax = 900) = true := by
  unfold TablesCanonical; decide

theorem witness_LossesOfRetentionAndSupply : State.reset.mainPresent = true ∧ unpowered.mainPresent = false := by decide

theorem witness_TripLineAndGateFollowTheMode :
    TripLineFollowsMode (queued .plantTrip) ∧ GateShutOutsideOperation (queued .plantTrip) ∧
    goesOn (queued .plantTrip) = true := by
  unfold TripLineFollowsMode GateShutOutsideOperation; decide

/-- A plant in a mode with its TURBINE values in force and the entry behind them. -/
def regulated (m : PlantMode) : State :=
  let s := withEntry .turbine 1 turbineImage (inMode m)
  { s with tsu := { s.tsu with turbine := turbineEntry turbineImage, turbineState := .good, gate := 900 } }

theorem witness_TripLineAndGateFollowTheMode_maximum :
    TablesCanonical (regulated .run) ∧ (regulated .run).tsu.gate = (regulated .run).tsu.turbine.gateMax ∧
    (regulated .run).tsu.turbine.startOpening ≤ (regulated .run).tsu.turbine.gateMax ∧
    (table .turbine (regulated .run)).pending = false ∧
    goesOn { regulated .run with pending := [.tsuSecondEvent] } = true := by
  unfold TablesCanonical; decide
theorem witness_TripLineAndGateFollowTheMode_entry : GateWithinMaximum (regulated .run) := by
  refine ⟨by decide, by decide, ?_, fun h => absurd h (by decide)⟩
  intro img e h
  cases Option.some.inj ((by decide :
    bankRead (bankOf (table .turbine (regulated .run)) (table .turbine (regulated .run)).active) 1 =
      some (.good turbineImage .clean)).symm.trans h)
  decide

theorem witness_OpenPermissiveHoldsTheSawOff :
    PermissiveHoldsSawOff (queued (.permissiveChange .closed)) ∧ goesOn (queued (.permissiveChange .closed)) = true := by
  unfold PermissiveHoldsSawOff; decide

theorem witness_HoldingAlwaysCarriesTheCommands :
    HoldingCarriesCommands (queued .plantTrip) ∧ goesOn (queued .plantTrip) = true := by
  unfold HoldingCarriesCommands; decide

/-- Outside RUN a trip is on its way to the blocks; at reset none is, and they are at rest. -/
theorem witness_HoldingAlwaysCarriesTheCommands_quiet :
    let s := after .plantTrip { State.reset with tsu := { State.reset.tsu with mode := .run } }
    (s.tsu.mode ≠ .run ∧ LeavingNoticed .fcuModeNotice s ∧ LeavingNoticed .sduModeNotice s ∧
      LeavingNoticed .sbuModeNotice s) ∧
    (State.reset.tsu.mode ≠ .run ∧ ¬LeavingNoticed .fcuModeNotice State.reset ∧ sawIdle State.reset.sdu.state = true ∧
      ∀ n : Feeder, (feeder n State.reset).state = .off) := by
  unfold LeavingNoticed; decide
theorem witness_HoldingAlwaysCarriesTheCommands_kept :
    HoldingCarriesCommands (queued .sawStart) ∧ PermissiveHoldsSawOff (queued .sawStart) ∧
    goesOn (queued .sawStart) = true := by
  unfold HoldingCarriesCommands PermissiveHoldsSawOff; decide
theorem witness_HoldingAlwaysCarriesTheCommands_start : QuietOutsideRun (queued .sawStart) := by
  unfold QuietOutsideRun LeavingNoticed; decide

theorem witness_ClaimAndShedListsKeepTheirForm :
    OneClaimPerHolder waiting ∧ ClaimListInForm waiting ∧ ShedListInForm waiting ∧ HoldersStand waiting ∧
    PermissiveHoldsSawOff waiting ∧ goesOn waiting = true ∧ ShedListInForm toRestore ∧
    (toRestore.sbu.shedList.map (·.feeder)) = [6] := by
  unfold OneClaimPerHolder ClaimListInForm ShedListInForm HoldersStand PermissiveHoldsSawOff; decide

theorem witness_TablesStayCanonical :
    TablesCanonical (after (.readEntry 8 .active 1) (storeEntry .balance .bankA 1 (some (.good balanceImage .double)) State.reset)) ∧
    TablesCanonical (queued (.copyActive 8)) ∧ goesOn (queued (.copyActive 8)) = true := by
  unfold TablesCanonical; decide

theorem witness_RangesAreKept :
    EligibleFromIsPosition (queued .roundTimerExpiry) ∧ RingCountsFit (queued .roundTimerExpiry) ∧
    DemandWithinCapacity (queued .roundTimerExpiry) ∧ goesOn (queued .roundTimerExpiry) = true := by
  unfold EligibleFromIsPosition RingCountsFit DemandWithinCapacity; decide

theorem witness_BandTotalsNeverDecrease :
    runs (.eauMeteringReport 3600000 0) State.reset (fun t => bandTotal .standard (account 13 t) == 1) = true ∧
    runs (.accountReset 1) (inMode .run) (fun _ => true) = true ∧ (inMode .run).tsu.mode ≠ .commission := by decide

theorem witness_ActiveBankChangesBySwapAlone :
    let s := after (.writeEntry 8 1 false balanceImage) (inMode .run)
    let t := after (.swap 8 0) s
    let u := after (.sbuBallastUpdate (calm 50010)) t
    (table .balance s).pending = false ∧ (table .balance t).pending = true ∧
    (table .balance u).active ≠ (table .balance t).active := by decide

theorem witness_RoundTimerExpiryEmits :
    let s := after .roundTimerExpiry State.reset
    State.reset.mainPresent = true ∧ State.reset.rif.roundTimer = .running 10000 ∧ State.reset.rif.outstanding = none ∧
    s.rif.roundTimer = .running 20000 ∧ s.rif.outstanding.isSome = true := by decide

/-- R13: the third bad closure in a row announces the ring down before the lost closure is handed on. -/
theorem witness_RoundTimerExpiryEmits_lost :
    let s := after .roundTimerExpiry State.reset
    let s := { s with rif := { s.rif with ring := .up, badRun := 2 } }
    s.rif.outstanding.isSome = true ∧ s.rif.roundTimer = .running 20000 ∧
    runs .roundTimerExpiry s (fun t => t.rif.ring = .down && t.issued = s.issued ++
      [.fcuRingDown, .sduRingDown, .mmbRingDown, .miuRoundClosure .lost, .tsuRoundClosure .lost]) = true := by decide

/-- A pending SLOT MAP swap to a bank with a header of 20 ms and the commands GATE-SETPOINT and BALLAST-TRIM. -/
def mapSwap : State :=
  let gate := image [0x83000000]
  let trim := image [0x82000000]
  let s := storeEntry .slotMap .bankB 2 (some (.good trim .clean)) (storeEntry .slotMap .bankB 1 (some (.good gate .clean))
    (storeEntry .slotMap .bankB 0 (some (.good (image [20]) .clean)) (withEntry .slotMap 1 cycleSlot State.reset)))
  setTable .slotMap { table .slotMap s with pending := true }
    { s with
      rif := { s.rif with ring := .up }
      mmb := { s.mmb with response := some { addressee := 6, tag := 3, status := .done, words := wordsOf [1] } } }

theorem witness_RoundTimerExpiryEmits_slots :
    mapSwap.mainPresent = true ∧ mapSwap.rif.roundTimer = .running 10000 ∧ TablesCanonical mapSwap ∧
    (table .slotMap mapSwap).pending = true ∧ ownerReads .slotMap 0 mapSwap = .good (image [20]) ∧
    headerPeriod (image [20]) = 20 ∧ ownerReads .slotMap 1 mapSwap = .good (image [0x83000000]) ∧
    slotRole (image [0x83000000]) = .command .gateSetpoint 0 0 ∧
    slotRole (image [0x82000000]) = .command .ballastTrim 0 0 ∧
    holdingValue mapSwap.rif.holding .gateSetpoint 0 = some 0 ∧ holdingValue mapSwap.rif.holding .ballastTrim 0 = none ∧
    ownerReads .slotMap 3 mapSwap = .empty ∧ mapSwap.mmb.response.isSome = true ∧ State.reset.mmb.response = none ∧
    State.reset.rif.ring = .down ∧ ownerReads .slotMap 1 State.reset = .empty ∧
    slotMeaning (entryAt .slotMap .bankA 1 mapSwap) ≠ slotMeaning (entryAt .slotMap .bankB 1 mapSwap) ∧
    slotMeaning (entryAt .slotMap .bankA 3 mapSwap) = slotMeaning (entryAt .slotMap .bankB 3 mapSwap) := by
  unfold TablesCanonical; decide

/-- A frame of a round number and a spoilt marker whose CRC field is right. -/
def frame (round spoilt : Byte) : List Byte :=
  let body := round :: List.replicate 266 0#8 ++ [spoilt]
  [0xA6#8, 0x5C#8] ++ body ++ halfBytes (crc16 body)

/-- Round 21 is outstanding and round 20 was lost. -/
def roundOut : State :=
  { State.reset with
    rif := { State.reset.rif with outstanding := some { round := 21, period := 10, eligibleFrom := 1 }, late := some 20 } }

/-- The three frames of the arrival statement: their CRCs pass (R3). -/
theorem witness_arrival_crcs :
    crcPasses (frame 21 0) = true ∧ crcPasses (frame 21 1) = true ∧ crcPasses (frame 22 0) = true ∧
    crcPasses (frame 20 0) = true ∧ crcPasses ((frame 21 0).set 5 7) = false := by decide +kernel
theorem witness_arrival_numbers :
    returnedRound (frame 21 0) = 21 ∧ spoilt (frame 21 0) = false ∧ returnedRound (frame 21 1) = 21 ∧
    spoilt (frame 21 1) = true ∧ returnedRound (frame 22 0) = 22 ∧ returnedRound (frame 20 0) = 20 ∧
    roundOut.rif.outstanding.map (·.round) = some 21 ∧ roundOut.rif.late = some 20 := ⟨rfl, rfl, rfl, rfl, rfl, rfl, rfl, rfl⟩
theorem witness_ArrivalsAreJudged :
    roundOut.mainPresent = true ∧ fromStartMarker (frame 21 0) = some (frame 21 0) ∧ (frame 21 0).length = 272 ∧
    fromStartMarker ((frame 21 0).take 271) = some ((frame 21 0).take 271) ∧ ((frame 21 0).take 271).length = 271 ∧
    State.reset.rif.outstanding = none := ⟨rfl, rfl, rfl, rfl, rfl, rfl⟩

theorem witness_BadClosuresAgeRecords :
    let s := withEntry .slotMap 1 cycleSlot State.reset
    State.reset.mainPresent = true ∧ (recordUse 0 s).isSome = true ∧ recordUse 1 s = none := by decide

theorem witness_AcceptedClosureTakesSlots :
    let s := withEntry .slotMap 1 cycleSlot (withEntry .slotMap 2 (image [0x4C000000, 0x0400FFEC, 0x00000003]) State.reset)
    s.mainPresent = true ∧ TablesCanonical s ∧ activeReads .slotMap 1 s = .good cycleSlot ∧
    slotRole cycleSlot = .sample .cyclePeriod 0 1024 0 3 ∧
    activeReads .slotMap 2 s = .good (image [0x4C000000, 0x0400FFEC, 0x00000003]) ∧
    slotRole (image [0x4C000000, 0x0400FFEC, 0x00000003]) = .sample .forebayLevel 0 1024 (-20) 3 ∧
    sampleClamps .forebayLevel = true ∧
    sampleRange .cyclePeriod = (10000, 40000) ∧ (10000 * 1024 + 512) / 1024 = 10000 ∧ (40000 * 1024 + 512) / 1024 = 40000 ∧
    sampleRange .forebayLevel = (0, 10000) ∧ ((19 * 1024 + 512) / 1024 : Int) + (-20) = -1 ∧
    ((10021 * 1024 + 512) / 1024 : Int) + (-20) = 10001 ∧ s.miu.records[0].value = none := by
  unfold TablesCanonical; decide

theorem witness_AcceptedClosureTakesSlots_others :
    let button := image [0x4B000000, 0x04000000, 0x00000003]
    let s := storeEntry .slotMap .bankA 2 (some .damaged) (withEntry .slotMap 1 button State.reset)
    s.mainPresent = true ∧ TablesCanonical s ∧ activeReads .slotMap 1 s = .good button ∧
    slotRole button = .sample .sawButton 0 1024 0 3 ∧ sampleClamps .sawButton = false ∧
    sampleRange .sawButton = (0, 2) ∧ (3 * 1024 + 512) / 1024 = 3 ∧ activeReads .slotMap 2 s = .damaged ∧
    activeReads .slotMap 3 s = .empty := by
  unfold TablesCanonical; decide

/-- A started measurement with TURBINE and PROTECTION loaded. -/
def turning : State :=
  let s := withEntry .protection 1 protectionImage (withEntry .turbine 1 turbineImage State.reset)
  { s with miu := { s.miu with shaft := { s.miu.shaft with
      started := true, state := .fresh, overdue := .running 48000, loss := .running 1000000 } } }

theorem witness_ShaftEdgesMeasure :
    turning.mainPresent = true ∧ turning.miu.shaft.started = true ∧ turning.now + 49 - turning.miu.shaft.refTime < 50 ∧
    50 ≤ turning.now + 50 - turning.miu.shaft.refTime ∧ TablesCanonical turning ∧
    activeReads .turbine 1 turning = .good turbineImage ∧ activeReads .protection 1 turning = .good protectionImage ∧
    State.reset.miu.shaft.started = false := by
  unfold TablesCanonical; decide

/-- R34: a loss timer that has run out before the edge has expired first; at its own moment the edge is a capture. -/
theorem witness_ShaftEdgesMeasure_lost :
    turning.miu.shaft.loss = .running 1000000 ∧ 1000000 < turning.now + 1000001 ∧ ¬1000000 < turning.now + 1000000 ∧
    turning.miu.shaft.overdue = .running 48000 ∧ 48000 < turning.now + 48001 ∧ isCurrent turning.miu.shaft.state = true ∧
    runs (.shaftRisingEdge 1000001) turning (fun t =>
      t.miu.shaft.state = .stale && t.miu.shaft.refTime = 1000001 && t.issued = [.tsuShaftLossNotice]) = true ∧
    runs (.shaftRisingEdge 1000000) turning (fun t => t.miu.shaft.state = .fresh && t.miu.shaft.tt = some 1000000)
      = true := by decide

/-- R32, R35: without a GOOD read since the reset a capture records its period alone and the loss time is 2,000 ms; after
one, the values of that read stay in use. -/
theorem witness_ShaftEdgesMeasure_fallback :
    let bare := { State.reset with miu := { State.reset.miu with shaft := { State.reset.miu.shaft with started := true } } }
    let kept := { after (.shaftRisingEdge 24000) turning with tbs := State.reset.tbs }
    TablesCanonical bare ∧ activeReads .turbine 1 bare = .empty ∧ activeReads .protection 1 bare = .empty ∧
    bare.miu.lastScale = none ∧ bare.miu.lastPulseLoss = none ∧
    kept.miu.lastScale.isSome = true ∧ kept.miu.lastPulseLoss.isSome = true ∧ activeReads .turbine 1 kept = .empty ∧
    runs (.shaftRisingEdge 20000) bare (fun t =>
      t.miu.shaft.tt = some 20000 && t.miu.shaft.speed = none && t.miu.shaft.loss = .running 2020000) = true ∧
    runs (.shaftRisingEdge 24000) kept (fun t => t.miu.shaft.speed = some 625) = true := by
  unfold TablesCanonical; decide

theorem witness_ShaftTimersAgeTheRecord :
    turning.mainPresent = true ∧ turning.miu.shaft.overdue = .running 48000 ∧
    turning.miu.shaft.loss = .running 1000000 := by decide

theorem witness_SampleSetMovesTheRegulator :
    fittedBallast.mainPresent = true ∧ TablesCanonical fittedBallast ∧
    ownerReads .regulator 1 fittedBallast = .good (image [0xC3500200, 0x00400000]) ∧
    (after (.frgModeNotice .run .tripped) State.reset).frg.mode = .tripped ∧
    (after (.frgModeNotice .standby .commission) State.reset).frg.mode = .commission := by
  unfold TablesCanonical; decide

/-- A set at 49,900 mHz, and one with the steps 2, 3 and 4 at fault. -/
def lineSet : SampleSet := setOf [fresh .cyclePeriod 0 20040] .never
def faultySet : SampleSet :=
  setOf [fresh .ballastStatus 2 1, fresh .ballastStatus 3 1, fresh .ballastStatus 4 1] .never

theorem witness_SampleSetMovesTheRegulator_tracking :
    setFrequency lineSet = (.alternator, some 49900) ∧ fittedBallast.frg.mode = .standby ∧
    fittedBallast.frg.source ≠ .alternator ∧
    runs (.frgSampleSet lineSet) fittedBallast (fun t => t.frg.state = .tracking && t.frg.lastError = some (-100)) = true ∧
    (after (.frgSampleSet lineSet) fittedBallast).frg.source = .alternator ∧
    (after (.frgSampleSet lineSet) fittedBallast).frg.lastError = some (-100) := by decide

theorem witness_SampleSetMovesTheRegulator_composition :
    let held := after (.frgSampleSet (setOf [] .never)) fittedBallast
    (setView faultySet .ballastStatus 2).current = some 1 ∧ elementOf 4 fittedBallast = some ⟨true, true, 1000⟩ ∧
    elementOf 0 fittedBallast = some ⟨true, false, 4000⟩ ∧ elementOf 5 fittedBallast = none ∧
    held.frg.demand = 4225 ∧ held.frg.stepSum = 4000 ∧ held.frg.trimRating = 1000 ∧
    runs (.frgSampleSet faultySet) { fittedBallast with frg := { fittedBallast.frg with demand := 3000 } } (fun t =>
      t.frg.stepSum = 0 && t.frg.trimShare = 255 && t.frg.shortfallSticky) = true := by decide

/-- FRG with capacity 0 and a gain of 1/256 W per mHz, so that the law's sum is the error itself. -/
def unitGain : State := { State.reset with frg := { State.reset.frg with ki := 1 } }

theorem witness_PiLawMovesDemandExactly :
    (unitGain.frg.demand, unitGain.frg.capacity, unitGain.frg.remainder, unitGain.frg.kp, unitGain.frg.ki) = (0, 0, 0, 0, 1) ∧
    (piLaw 0 unitGain).frg.remainder = 0 ∧ (piLaw 255 unitGain).frg.remainder = 255 ∧
    (piLaw (-1) unitGain).frg.floorSticky = true ∧ (piLaw 256 unitGain).frg.ceilingSticky = true := by decide

theorem witness_ModeNoticeSetsTheBallast :
    fittedBallast.mainPresent = true ∧ TablesCanonical fittedBallast ∧ PlantMode.standby ≠ .tripped ∧
    PlantMode.standby ≠ .commission ∧ PlantMode.run ≠ .tripped ∧ PlantMode.run ≠ .commission := by
  unfold TablesCanonical; decide

theorem witness_RegulatorEventsAreExact : fittedBallast.mainPresent = true := by decide

/-- STANDBY with tables 1 to 8 loaded, and TURBINE and PROTECTION in the active banks. -/
def loaded : State :=
  let s := allTables.foldl (fun s t => setTable t { table t s with history := true } s) State.reset
  withEntry .protection 1 protectionImage (withEntry .turbine 1 turbineImage s)

theorem witness_StartIsJudged :
    (∀ m ∈ modes, (inMode m).mainPresent = true ∧ (inMode m).tsu.mode = m) ∧
    mustBeWritten .slotMap = true ∧ (table .slotMap (inMode .standby)).history = false ∧
    loaded.mainPresent = true ∧ loaded.tsu.mode = .standby ∧
    (∀ x ∈ allTables, mustBeWritten x = true → (table x loaded).history = true) ∧
    activeReads .turbine 1 loaded = .good turbineImage ∧ entryStatus .protection .active 1 loaded = .good ∧
    loaded.tsu.protectionDamage = false ∧
    readStatus (activeReads .turbine 1 (storeEntry .turbine .bankA 1 none loaded)) ≠ .good := by decide

/-- R79: a START reads TURBINE in every mode, also where it is not taken; a lower gate maximum lowers the setpoint. -/
theorem test_every_start_reads_turbine :
    (∀ m ∈ modes, runs .plantStart (withEntry .turbine 1 turbineImage (inMode m))
      (fun t => t.tsu.turbine = turbineEntry turbineImage) = true) ∧
    (let s := withEntry .turbine 1 turbineImage (inMode .run)
     let above : State := { s with tsu := { s.tsu with gate := 901 } }
     runs .plantStart above (fun t => t.tsu.gate = 900 && t.rif.holding.gateSetpoint = some 900) = true ∧
     runs .plantStart { above with tsu := { above.tsu with gate := 900 } }
       (fun t => t.tsu.gate = 900 && t.rif.holding.gateSetpoint = some 0) = true) := by decide

theorem witness_StopAndTripByMode :
    ∀ m ∈ modes, (inMode m).mainPresent = true ∧ (inMode m).tsu.mode = m := by decide

/-- A plant with GATE-POSITION at a value, fresh. -/
def gateAt (v : Nat) (s : State) : State :=
  let s := withEntry .slotMap 1 (image [0x4D000000, 0x04000000, 0x00000003]) s
  { s with miu := { s.miu with records := s.miu.records.set 0 { QRecord.reset with value := some v, hold := 3 } } }

theorem witness_RestartAndCommission :
    (∀ m ∈ modes, (inMode m).mainPresent = true ∧ (inMode m).tsu.mode = m) ∧
    (protectionEntry protectionImage).restartRpm = 60 ∧
    (shaftAt .tripped .fresh 59).miu.shaft.speed = some 59 ∧ (shaftAt .tripped .fresh 60).miu.shaft.speed = some 60 ∧
    gatePosition (gateAt 9 (inMode .tripped)) = some 9 ∧ gatePosition (gateAt 10 (inMode .tripped)) = some 10 ∧
    (inMode .tripped).tsu.protection = none ∧ (inMode .tripped).miu.shaft.state = .never ∧
    runs .plantRestart (shaftAt .tripped .fresh 59) (fun t => t.tsu.mode = .standby) = true ∧
    runs .plantRestart (shaftAt .tripped .fresh 60) (fun t => t.tsu.mode = .tripped) = true ∧
    runs .plantEnterCommission (gateAt 9 (inMode .standby)) (fun t => t.tsu.mode = .commission) = true ∧
    runs .plantEnterCommission (gateAt 10 (inMode .standby)) (fun t => t.tsu.mode = .standby) = true := by decide

theorem witness_SecondEventRampsTheGate :
    (∀ m ∈ modes, (inMode m).mainPresent = true ∧ (inMode m).tsu.mode = m) ∧
    ownerReads .turbine 1 (withEntry .turbine 1 turbineImage (inMode .starting)) = .good turbineImage ∧
    runs .tsuSecondEvent (withEntry .turbine 1 turbineImage (inMode .starting)) (fun t => t.tsu.gate = 20) = true ∧
    runs .tsuSecondEvent (gateAt 10 (inMode .stopping)) (fun t => t.tsu.mode = .standby) = true ∧
    runs .tsuSecondEvent (gateAt 11 (inMode .stopping)) (fun t => t.tsu.mode = .stopping) = true := by decide

/-- R72: the read brings the share band while its source is TABLE, and leaves one that the schedule has set. -/
theorem witness_SecondEventRampsTheGate_band :
    let s := withEntry .turbine 1 turbineImage (inMode .run)
    let told : State := { s with tsu := { s.tsu with share := { low := 0, high := 1000, source := .schedule } } }
    s.tsu.share.source = .table ∧ ownerReads .turbine 1 told = .good turbineImage ∧
    runs .tsuSecondEvent s (fun t => t.tsu.share = { low := 150, high := 350, source := .table }) = true ∧
    runs .tsuSecondEvent told (fun t => t.tsu.share = told.tsu.share && t.tsu.turbine = turbineEntry turbineImage) = true ∧
    runs .tsuSecondEvent (inMode .run) (fun t => t.tsu = (inMode .run).tsu) = true := by decide

theorem witness_PlantTimersExpire :
    let s := { inMode .starting with tsu := { (inMode .starting).tsu with startTimer := .running 7, dwell := .running 7 } }
    let u := { inMode .run with tsu := { (inMode .run).tsu with startTimer := .running 7 } }
    s.mainPresent = true ∧ s.tsu.mode = .starting ∧ s.tsu.startTimer = .running 7 ∧ s.tsu.dwell = .running 7 ∧
    u.mainPresent = true ∧ u.tsu.mode ≠ .starting ∧ u.tsu.startTimer = .running 7 := by decide

/-- A plant with PROTECTION loaded and the turbine values of the worked sequences, N in-band lowered to 2. -/
def guarded (m : PlantMode) : State :=
  let s := withEntry .protection 1 protectionImage (inMode m)
  { s with tsu := { s.tsu with turbine := { turbineEntry turbineImage with nInBand := 2 }, fSetView := 50000 } }

/-- A set with a cycle period and a forebay level. -/
def plantSet (t level : Nat) (x : QState) : SampleSet := setOf [fresh .cyclePeriod 0 t, fresh .forebayLevel 0 level] x

theorem witness_SampleSetsGuardThePlant_levels :
    (guarded .run).mainPresent = true ∧ ownerReads .protection 1 (guarded .run) = .good protectionImage ∧
    (setView (plantSet 20000 1199 .fresh) .forebayLevel 0).current = some 1199 ∧
    (setView (setOf [] .fresh) .forebayLevel 0).current = none ∧
    runs (.tsuSampleSet (plantSet 20000 1199 .fresh)) (guarded .run) (fun t => t.tsu.pond) = true ∧
    runs (.tsuSampleSet (plantSet 20000 1200 .fresh)) (guarded .run) (fun t => !t.tsu.pond) = true := by decide

theorem witness_SampleSetsGuardThePlant_entry :
    let broken := storeEntry .protection .bankA 1 (some .damaged) (inMode .run)
    ownerReads .protection 1 broken = .damaged ∧ broken.tsu.protectionDamage = false ∧
    ownerReads .protection 1 (inMode .run) = .empty ∧ (inMode .run).tsu.protection = none ∧
    runs (.tsuSampleSet (setOf [] .fresh)) broken (fun t =>
      t.tsu.protectionDamage && t.tsu.tripCause = some .protectionDamaged && t.rif.holding.tripRepeat = some 1) = true ∧
    runs (.tsuSampleSet (setOf [] .fresh)) (inMode .run) (fun t => t.tsu.mode = .run && t.tsu.overfrequency = 0)
      = true := by decide

theorem witness_SampleSetsGuardThePlant_frequency :
    let four := { guarded .run with tsu := { (guarded .run).tsu with overfrequency := 4 } }
    (protectionEntry protectionImage).fTrip = 55000 ∧ (setFrequency (plantSet 18181 0 .fresh)).2 = some 55002 ∧
    runs (.tsuSampleSet (plantSet 18181 1300 .fresh)) four (fun t => t.tsu.tripCause = some .overfrequency) = true ∧
    runs (.tsuSampleSet (plantSet 18182 1300 .fresh)) four (fun t => t.tsu.overfrequency = 0) = true ∧
    (guarded .run).tsu.overfrequency = 0 ∧ (guarded .run).tsu.watch = none := by decide

theorem witness_SampleSetsGuardThePlant_inband :
    let one := { guarded .starting with tsu := { (guarded .starting).tsu with inBand := 1 } }
    (setFrequency (plantSet 20080 0 .fresh)).2 = some 49801 ∧ (setFrequency (plantSet 20081 0 .fresh)).2 = some 49798 ∧
    runs (.tsuSampleSet (plantSet 20080 1300 .fresh)) one (fun t => t.tsu.mode = .run) = true ∧
    runs (.tsuSampleSet (plantSet 20080 1300 .fresh)) (guarded .starting)
      (fun t => t.tsu.mode = .starting && t.tsu.inBand = 1) = true ∧
    runs (.tsuSampleSet (plantSet 20081 1300 .fresh)) one (fun t => t.tsu.mode = .starting && t.tsu.inBand = 0) = true := by
  decide

theorem witness_SampleSetsGuardThePlant_watch :
    let armed := fun n => { guarded .run with tsu := { (guarded .run).tsu with watch := some n } }
    (setFrequency (setOf [] .stale)).2 = none ∧ isCurrent (setAlternator (setOf [] .stale)).state = false ∧
    runs (.tsuSampleSet (setOf [] .stale)) (guarded .run) (fun t => t.tsu.watch = some 0) = true ∧
    runs (.tsuSampleSet (setOf [] .stale)) (armed 48) (fun t => t.tsu.watch = some 49 && t.tsu.mode = .run) = true ∧
    runs (.tsuSampleSet (setOf [] .stale)) (armed 49) (fun t => t.tsu.tripCause = some .speedUnknown) = true ∧
    runs (.tsuSampleSet (plantSet 20000 1300 .stale)) (armed 49) (fun t => t.tsu.watch = some 0) = true := by decide

/-- R64, R74: over-frequency and the watch act in STARTING too, and a set can bring the plant to RUN and trip it. -/
theorem witness_SampleSetsGuardThePlant_starting :
    let s := fun w f b => { guarded .starting with
      tsu := { (guarded .starting).tsu with watch := w, overfrequency := f, inBand := b } }
    (setFrequency (setOf [] .fresh)).2 = some 50000 ∧ isCurrent (setAlternator (setOf [] .fresh)).state = false ∧
    runs (.tsuSampleSet (plantSet 18181 1300 .fresh)) (s none 3 0) (fun t => t.tsu.overfrequency = 4) = true ∧
    runs (.tsuSampleSet (plantSet 18181 1300 .fresh)) (s none 4 0) (fun t => t.tsu.mode = .tripped) = true ∧
    runs (.tsuSampleSet (setOf [] .stale)) (s (some 48) 0 0) (fun t => t.tsu.watch = some 49) = true ∧
    runs (.tsuSampleSet (setOf [] .fresh)) (s (some 49) 0 1) (fun t =>
      t.tsu.tripCause = some .speedUnknown && t.issued.contains (.fcuModeNotice .starting .run) &&
      t.issued.contains (.fcuModeNotice .run .tripped)) = true := by decide

theorem witness_CapturesGuardTheSpeed :
    (∀ m ∈ modes, (guarded m).mainPresent = true ∧ ownerReads .protection 1 (guarded m) = .good protectionImage) ∧
    (protectionEntry protectionImage).tripRpm = 750 ∧ (protectionEntry protectionImage).alarmRpm = 690 ∧
    (guarded .run).tsu.alarmArmed = true ∧ (guarded .run).tsu.mode ≠ .tripped ∧ (guarded .run).tsu.mode ≠ .commission ∧
    ownerReads .protection 1 (storeEntry .protection .bankA 1 (some .damaged) (inMode .run)) = .damaged ∧
    (inMode .run).tsu.protectionDamage = false ∧ ownerReads .protection 1 (inMode .run) = .empty ∧
    (inMode .run).tsu.protection = none ∧
    runs (.tsuCapture { tt := 20000, speed := 749, fShaft := 0 }) (guarded .run) (fun t => t.tsu.overspeed = 0) = true ∧
    runs (.tsuCapture { tt := 20000, speed := 750, fShaft := 0 }) (guarded .run) (fun t => t.tsu.overspeed = 1) = true := by
  decide

/-- R72: an EMPTY or DAMAGED entry leaves the values of the last GOOD read in force. -/
theorem witness_CapturesGuardTheSpeed_kept :
    let kept := { inMode .run with
      tsu := { (inMode .run).tsu with protection := some (protectionEntry protectionImage) } }
    let broken := storeEntry .protection .bankA 1 (some .damaged) kept
    ownerReads .protection 1 kept = .empty ∧ ownerReads .protection 1 broken = .damaged ∧
    broken.tsu.protectionDamage = false ∧
    runs (.tsuCapture { tt := 20000, speed := 750, fShaft := 0 }) kept (fun t =>
      t.tsu.overspeed = 1 && t.tsu.mode = .run) = true ∧
    runs (.tsuCapture { tt := 20000, speed := 750, fShaft := 0 }) broken (fun t =>
      t.tsu.overspeed = 1 && t.tsu.tripCause = some .protectionDamaged) = true := by decide

theorem witness_RoundsCountOnTheWatch :
    let armed := fun n => { inMode .run with tsu := { (inMode .run).tsu with watch := some n } }
    (∀ m ∈ modes, (inMode m).mainPresent = true ∧ (inMode m).tsu.mode = m) ∧
    (armed 48).tsu.watch = some 48 ∧ (armed 49).tsu.watch = some 49 ∧ (inMode .run).tsu.watch = none ∧
    (armed 49).tsu.mode ≠ .tripped ∧ (armed 49).tsu.mode ≠ .commission ∧
    runs (.tsuRoundClosure .lost) (armed 48) (fun t => t.tsu.watch = some 49) = true ∧
    runs (.tsuRoundClosure .lost) (armed 49) (fun t => t.tsu.mode = .tripped) = true := by decide

theorem witness_GateTrimAndViews :
    trimming.mainPresent = true ∧ trimming.tsu.mode = .run ∧ (inMode .standby).tsu.mode ≠ .run ∧
    runs (.shareBand 999 1000) trimming (fun t => t.tsu.share.high = 1000 && t.tsu.share.source = .schedule) = true ∧
    runs (.shareBand 1000 1000) trimming (fun t => t.tsu.share.source = .table) = true ∧
    runs (.shareBand 0 1001) trimming (fun t => t.tsu.share.source = .table) = true := by decide

theorem witness_UpdatesGrantTheHead :
    waiting.mainPresent = true ∧ waiting.tsu.mode = .run ∧ ownerReads .balance 1 waiting = .good balanceImage ∧
    waiting.sbu.queue.length = 1 ∧ waiting.sbu.shedPause = .stopped ∧ waiting.sbu.shedList = [] ∧
    (inMode .standby).tsu.mode ≠ .run ∧ (calm 50010).floorHits < (balanceEntry balanceImage).kShed ∧
    runs (.sbuBallastUpdate { calm 49700 with demand := 1700 }) waiting (fun t => t.sbu.granted.length = 1) = true ∧
    runs (.sbuBallastUpdate { calm 49700 with demand := 1699 }) waiting (fun t => t.sbu.granted = []) = true ∧
    runs (.sbuBallastUpdate { calm 49699 with demand := 1700 }) waiting (fun t => t.sbu.granted = []) = true := by decide

/-- R83, R89, R101: with BALANCE not GOOD nothing is granted and no restore begins, though the frequency calls for it. -/
theorem witness_UpdatesGrantTheHead_degraded :
    let wait := { waiting with tbs := State.reset.tbs }
    let list := { toRestore with tbs := State.reset.tbs }
    readStatus (ownerReads .balance 1 wait) ≠ .good ∧ wait.tsu.mode = .run ∧ (calm 50010).floorHits < 4 ∧
    toRestore.sbu.queue = [] ∧ ownerReads .balance 1 toRestore = .good balanceImage ∧
    runs (.sbuBallastUpdate (calm 50010)) wait (fun t => t.sbu.degraded && t.sbu.granted = [] && t.issued = []) = true ∧
    runs (.sbuBallastUpdate (calm 50010)) list (fun t => t.sbu.restoring = none && t.sbu.shedList.length = 1) = true := by
  decide

theorem witness_DeficitShedsOneLoad :
    (dryAfternoon .run).mainPresent = true ∧ (dryAfternoon .run).tsu.mode = .run ∧
    (dryAfternoon .run).sbu.shedPause = .stopped ∧ deficit.freq = some 49150 ∧
    ownerReads .balance 1 (dryAfternoon .run) = .good balanceImage ∧ (balanceEntry balanceImage).kShed = 4 ∧
    (balanceEntry balanceImage).shedDepth = 800 ∧ 4 ≤ deficit.floorHits ∧ 49150 + 800 < deficit.fSet ∧
    (∀ m : Feeder, (feeder m (dryAfternoon .run)).state = .on →
      (feeder m (dryAfternoon .run)).cls ≤ (dryAfternoon .run).sdu.cls) ∧
    (feeder 6 (dryAfternoon .stopped)).state = .on ∧ (dryAfternoon .stopped).sbu.restoring = none ∧
    waiting.sbu.restoring = some 0 ∧ (∀ m : Feeder, (feeder m waiting).state ≠ .on) ∧ waiting.sbu.shedList = [] ∧
    runs (.sbuBallastUpdate { deficit with freq := some 49199 }) (dryAfternoon .run) (fun t => t.sbu.shedPause ≠ .stopped)
      = true ∧
    runs (.sbuBallastUpdate { deficit with freq := some 49200 }) (dryAfternoon .run) (fun t => t.sbu.shedPause = .stopped)
      = true := by decide

/-- R99, R101: with no candidate a deficit is reported once; the shed list stays, or its first entry begins a restore. -/
theorem witness_DeficitShedsOneLoad_none :
    let list := { toRestore with sbu := { toRestore.sbu with voltage := none } }
    let told := { list with sbu := { list.sbu with unresolved := true } }
    toRestore.sdu.state = .stopped ∧ toRestore.sbu.restoring = none ∧ (∀ m : Feeder, (feeder m toRestore).state ≠ .on) ∧
    list.sbu.shedPause = .stopped ∧ list.sbu.shedList.length = 1 ∧
    runs (.sbuBallastUpdate deficit) list (fun t =>
      t.issued = [.latchNotice .deficitUnresolved] && t.sbu.unresolved && t.sbu.shedList = list.sbu.shedList) = true ∧
    runs (.sbuBallastUpdate deficit) told (fun t =>
      t.issued = [] && t.sbu.unresolved && t.sbu.shedPause = .stopped) = true ∧
    runs (.sbuBallastUpdate deficit) toRestore (fun t => t.sbu.restoring = some 6 && !t.sbu.unresolved) = true := by decide

theorem witness_RestoresBeginWithTheFirstEntry :
    toRestore.mainPresent = true ∧ toRestore.tsu.mode = .run ∧ ownerReads .balance 1 toRestore = .good balanceImage ∧
    (calm 50010).floorHits < (balanceEntry balanceImage).kShed ∧ toRestore.sbu.shedPause = .stopped ∧
    toRestore.sbu.restoreGap = .stopped ∧ toRestore.sbu.restoring = none ∧
    toRestore.tsu.protection = some (protectionEntry protectionImage) ∧ toRestore.sbu.voltage = some 2300 ∧
    toRestore.sbu.voltageSt = .fresh ∧ (protectionEntry protectionImage).vLow ≤ 2300 ∧
    2300 ≤ (protectionEntry protectionImage).vHigh ∧ toRestore.sbu.shedList.length = 1 ∧
    runs (.sbuBallastUpdate (calm 50010)) toRestore (fun t => (t.sbu.queue.map (·.amount)) = [1000]) = true ∧
    runs (.sbuBallastUpdate (calm 50010)) { toRestore with sbu := { toRestore.sbu with voltage := some 2070 } }
      (fun t => t.sbu.restoring = some 6) = true ∧
    runs (.sbuBallastUpdate (calm 50010)) { toRestore with sbu := { toRestore.sbu with voltage := some 2531 } }
      (fun t => t.sbu.restoring = none) = true := by decide

/-- R101: no restore begins while one of its conditions fails. -/
theorem witness_RestoresBeginWithTheFirstEntry_blocked :
    let set := fun f : Sbu → Sbu => { toRestore with sbu := f toRestore.sbu }
    ∀ s ∈ [set (fun b => { b with restoreGap := .running 5 }), set (fun b => { b with shedPause := .running 5 }),
        set (fun b => { b with voltageSt := .stale }), set (fun b => { b with voltage := some 2069 }),
        { toRestore with tsu := { toRestore.tsu with protection := none } }],
      s.tsu.mode = .run ∧ runs (.sbuBallastUpdate (calm 50010)) s (fun t => t.sbu.shedList = s.sbu.shedList) = true := by
  decide

theorem witness_VoltageViewFollowsTheSet : State.reset.mainPresent = true := by decide

theorem witness_ClaimsComeAndGo :
    (∀ x ∈ sawStates, (sawIn x).mainPresent = true ∧ (sawIn x).sdu.state = x) ∧ (sawIn .queued).tsu.mode = .run ∧
    NoClaim .saw (sawIn .queued) ∧ ClaimListInForm (sawIn .queued) ∧
    (let t := after (.sawClaimRequest 9000 4) (sawIn .queued)
     ¬NoClaim .saw t ∧ (claimOf .saw t).map (·.state) = some (.queued 0 60000)) ∧
    ({ sawIn .queued with tsu := { (sawIn .queued).tsu with mode := .stopping } } : State).tsu.mode ≠ .run ∧
    (claimOf (.feeder 0) waiting).map (·.state) = some (.queued 0 60000) ∧
    (let overtaken := setFeeder 0 { feeder 0 waiting with state := .closing } waiting
     (claimOf (.feeder 0) overtaken).map (·.state) = some (.queued 0 60000) ∧ overtaken.mainPresent = true ∧
     (feeder 0 overtaken).state ≠ .restoring) ∧
    (claimOf (.feeder 0) (after (.sbuBallastUpdate (calm 50010)) waiting)).map (·.state)
      = some (.granted (.running 20000000)) := by
  unfold NoClaim ClaimListInForm; decide

theorem witness_BalanceNotices :
    OneClaimPerHolder waiting ∧ (waiting.sbu.queue.map (·.holder)) = [.feeder 0] ∧
    (waiting.sbu.queue.map (·.state)) = [.queued 0 60000] ∧
    (let t := after (.sbuBallastUpdate (calm 50010)) waiting
     OneClaimPerHolder t ∧ (t.sbu.granted.map (·.holder)) = [.feeder 0]) ∧
    NoClaim .saw waiting ∧ NoClaim (.feeder 6) toRestore ∧
    (toRestore.sbu.shedList.find? fun x => x.feeder = 6) = some { feeder := 6, cls := 5, reason := .deficit, order := 1 } ∧
    (after (.sbuBallastUpdate deficit) (dryAfternoon .run)).sbu.shedPause = .running 2000000 ∧
    ({ toRestore with sbu := { toRestore.sbu with restoreGap := .running 5 } } : State).sbu.restoreGap = .running 5 ∧
    PlantMode.starting ≠ .tripped ∧ PlantMode.starting ≠ .stopping ∧ ClaimListInForm waiting ∧
    ShedListInForm toRestore := by
  unfold OneClaimPerHolder NoClaim ClaimListInForm ShedListInForm; decide

theorem witness_SawStartIsJudged :
    (∀ x ∈ sawStates, (withEntry .saw 1 sawImage (sawIn x)).mainPresent = true ∧
      ownerReads .saw 1 (withEntry .saw 1 sawImage (sawIn x)) = .good sawImage ∧
      activeReads .saw 1 (withEntry .saw 1 sawImage (sawIn x)) = .good sawImage) ∧
    (sawEntry sawImage).present = true ∧ (sawEntry (image [])).present = false ∧
    (sawIn .stopped).sdu.lockout = false ∧ (sawIn .stopped).sdu.permissive = .closed ∧
    readStatus (activeReads .saw 1 (sawIn .run)) ≠ .good ∧
    runs .sawStart (withEntry .saw 1 sawImage (sawIn .stopped)) (fun t =>
      t.sdu.state = .queued && t.issued = [.sawClaimRequest 9000 (sawIn .stopped).sdu.cls, plainAnswer .done]) = true := by
  decide

theorem witness_SawStopAndClear :
    (∀ x ∈ sawStates, (sawIn x).mainPresent = true ∧ (sawIn x).sdu.state = x ∧ (sawIn x).sdu.permissive = .closed) ∧
    ({ sawIn .fault with sdu := { (sawIn .fault).sdu with permissive := .opened } } : State).sdu.permissive = .opened := by
  decide

/-- RUN with the saw in a state and every timer of the saw running to 5. -/
def sawTimed (x : SawState) : State :=
  { sawIn x with sdu := { (sawIn x).sdu with
      starTimer := .running 5, deltaTimer := .running 5, rundownTimer := .running 5, stallTimer := .running 5
      confirmTimer := .running 5, confirm := .pending } }

theorem witness_StarDeltaSequence :
    ∀ x ∈ sawStates, (sawTimed x).mainPresent = true ∧ (sawTimed x).sdu.state = x ∧
      (sawTimed x).sdu.starTimer = .running 5 ∧ (sawTimed x).sdu.deltaTimer = .running 5 ∧
      (sawTimed x).sdu.rundownTimer = .running 5 := by decide

theorem witness_SawWatchesFault :
    (∀ x ∈ sawStates, (sawTimed x).sdu.state = x ∧ (sawTimed x).sdu.confirmTimer = .running 5 ∧
      (sawTimed x).sdu.confirm = .pending ∧ (sawTimed x).sdu.stallTimer = .running 5) ∧
    ({ sawTimed .run with sdu := { (sawTimed .run).sdu with confirm := .confirmed } } : State).sdu.confirm ≠ .pending := by
  decide

theorem witness_PermissiveAndRingAtTheSaw :
    (∀ x ∈ sawStates, (sawTimed x).mainPresent = true ∧ (sawTimed x).sdu.permissive = .closed ∧
      (sawTimed x).now + 5 = 5 ∧ (sawTimed x).sdu.confirmTimer = .running 5 ∧ (sawTimed x).sdu.stallTimer = .running 5) ∧
    sawing.sdu.contactor ≠ .off ∧ State.reset.sdu.permissive = .opened := by decide

/-- R118, R120: the whole record of a QUEUED saw as the permissive opens, and the watch of a STAR saw and of one in RUN at a
ring-down. -/
theorem witness_PermissiveAndRingAtTheSaw_record :
    let closed := fun x => { sawTimed x with sdu := { (sawTimed x).sdu with contactor := .star, confirm := .confirmed } }
    runs (.permissiveChange .opened) (sawTimed .queued) (fun t => t.sdu = { (sawTimed .queued).sdu with
      state := .stopped, reason := .permissive, permissive := .opened }) = true ∧
    runs (.permissiveChange .opened) (closed .rundown) (fun t =>
      t.sdu.contactor = .off && t.sdu.confirm = .pending && t.sdu.rundownTimer = .running 5) = true ∧
    runs .sduRingDown (closed .star) (fun t =>
      t.sdu.state = .fault && t.sdu.confirm = .pending && t.sdu.confirmTimer = .suspended 1000000 false) = true ∧
    runs .sduRingDown (closed .run) (fun t => t.sdu = { (closed .run).sdu with
      ringCheck := true, contactor := .withdrawn, confirmTimer := .suspended 5 false, stallTimer := .frozen 5 })
      = true := by decide

theorem witness_OrdersToTheSaw :
    (∀ x ∈ sawStates, (sawIn x).mainPresent = true ∧ (sawIn x).sdu.state = x) ∧
    PlantMode.starting ≠ .tripped ∧ PlantMode.starting ≠ .stopping := by decide

/-- R87: a record that stands as a QUEUED saw stops leaves with it. -/
theorem witness_OrdersToTheSaw_record :
    let s := after (.sawClaimRequest 9000 4) (sawIn .queued)
    s.sdu.state = .queued ∧ ¬NoClaim .saw s ∧
    runs .noHeadroom s (fun t => t.sdu.state = .stopped && t.sdu.reason = .noHeadroom && (claims t).isEmpty) = true := by
  unfold NoClaim; decide

theorem witness_SampleSetsDriveTheSaw :
    sawing.mainPresent = true ∧ TablesCanonical sawing ∧ activeReads .saw 1 sawing = .good sawImage ∧
    (sawEntry sawImage).present = true ∧ sawing.sdu.state = .run ∧ sawing.sdu.permissive = .closed ∧
    (setView (cutting 20000 1799) .sawButton 0).current = some 0 ∧
    (setView (cutting 20000 1799) .sawContactor 0).current = some 2 ∧
    (setView (cutting 20000 1799) .sawCurrent 0).current = some 1799 ∧ (sawEntry sawImage).tripCurrent = 1800 ∧
    (sawEntry sawImage).stallCurrent = 600 ∧ (sawEntry sawImage).startCurrent = 1200 ∧
    runs (.sduSampleSet (cutting 20000 600)) sawing (fun t => t.sdu.stallTimer = .running 3000000) = true ∧
    runs (.sduSampleSet (cutting 20000 599)) sawing (fun t => t.sdu.stallTimer = .stopped) = true := by
  unfold TablesCanonical; decide

/-- A set with a button and a contactor reading. -/
def pressed (button contact : Nat) : SampleSet := setOf [fresh .sawButton 0 button, fresh .sawContactor 0 contact] .stale

theorem witness_SampleSetsDriveTheSaw_button :
    let s := fun x => withEntry .saw 1 sawImage { sawIn x with sdu := { (sawIn x).sdu with
      button := .released, confirm := .confirmed, confirmTimer := .stopped } }
    ownerReads .saw 1 (s .stopped) = .good sawImage ∧ (s .stopped).sdu.ringCheck = false ∧
    (s .stopped).sdu.lockout = false ∧ (s .stopped).tsu.mode = .run ∧ (s .stopped).sdu.contactor = .off ∧
    (s .stopped).sdu.confirm = .confirmed ∧
    runs (.sduSampleSet (pressed 1 0)) (s .stopped) (fun t => t.sdu.state = .queued) = true ∧
    runs (.sduSampleSet (pressed 2 0)) (s .queued) (fun t => t.sdu.state = .stopped && t.sdu.reason = .stop) = true ∧
    runs (.sduSampleSet (pressed 2 1)) (s .star) (fun t => t.sdu.state = .rundown && t.sdu.reason = .stop) = true ∧
    runs (.sduSampleSet (pressed 0 1)) (s .stopped) (fun t => t.sdu.confirmTimer = .running 1000000) = true := by decide

/-- R109, R110, R125: a press that follows no 0, or that the lockout or the permissive refuses, leaves a STOPPED saw; the
factors are recorded in RUN alone, and RUNDOWN starts its timer and stops the others. -/
theorem witness_SampleSetsDriveTheSaw_press :
    let s := fun (b : Button) (l : Bool) (p : Permissive) => withEntry .saw 1 sawImage { sawIn .stopped with
      sdu := { (sawIn .stopped).sdu with button := b, lockout := l, permissive := p } }
    let stays := fun s => runs (.sduSampleSet (pressed 1 0)) s (fun t =>
      t.sdu.state = .stopped && t.sdu.button = .start && t.issued = []) = true
    stays (s .start false .closed) ∧ stays (s .unknown false .closed) ∧ stays (s .released true .closed) ∧
    stays (s .released false .opened) ∧
    runs (.sduSampleSet (pressed 1 0)) (s .released false .closed) (fun t => t.sdu.state = .queued) = true ∧
    runs (.sduSampleSet (cutting 20000 280)) sawing (fun t =>
      t.sdu.factorF = some 1000 && t.sdu.factorI = some 1000 && t.sdu.cls = sawing.sdu.cls) = true ∧
    runs (.sduSampleSet (pressed 2 0)) { sawing with sdu := { sawing.sdu with factorF := some 1, deltaTimer := .running 5 } }
      (fun t => t.sdu.factorF = none && t.sdu.deltaTimer = .stopped && t.sdu.confirm = .confirmed &&
        t.sdu.rundownTimer = .running ((sawEntry sawImage).rundownTime * 1000000)) = true := by decide

/-- R108: with an EMPTY entry every saw that is on or waiting comes down, and a saw that is not present does not start. -/
theorem witness_SampleSetsDriveTheSaw_entry :
    (∀ x ∈ sawStates, (sawIn x).mainPresent = true ∧ readStatus (ownerReads .saw 1 (sawIn x)) ≠ .good ∧
      readStatus (activeReads .saw 1 (sawIn x)) ≠ .good ∧ (sawIn x).sdu.ringCheck = false) ∧
    TablesCanonical (sawIn .run) ∧ (setView (pressed 0 0) .sawButton 0).current ≠ some 1 ∧
    runs (.sduSampleSet (pressed 0 0)) (sawIn .queued) (fun t => t.sdu.state = .stopped && t.sdu.reason = .plant) = true ∧
    runs (.sduSampleSet (pressed 0 2)) (sawIn .run) (fun t => t.sdu.state = .rundown && t.sdu.reason = .plant) = true ∧
    (let s := withEntry .saw 1 (image []) { sawIn .stopped with sdu := { (sawIn .stopped).sdu with button := .released } }
     ownerReads .saw 1 s = .good (image []) ∧
     runs (.sduSampleSet (pressed 1 0)) s (fun t => t.sdu.state = .stopped) = true) := by
  unfold TablesCanonical; decide

theorem witness_SampleSetsDriveTheSaw_ring_check :
    let s := { sawing with sdu := { sawing.sdu with ringCheck := true, contactor := .withdrawn } }
    runs (.sduSampleSet (pressed 0 2)) s (fun t => t.sdu.state = .run && !t.sdu.ringCheck) = true ∧
    runs (.sduSampleSet (pressed 0 1)) s (fun t => t.sdu.state = .rundown && t.sdu.reason = .ring) = true := by decide

/-- R113, R114: the stall timer freezes without a current and runs on with one; a suspended confirm watch resumes, and is
confirmed by the contactor of the state that the saw is in. -/
theorem witness_SampleSetsDriveTheSaw_timers :
    let blind := setOf [fresh .sawContactor 0 2, fresh .sawButton 0 0] .stale
    let s := fun (stall watch : HeldTimer) (c : Confirm) => { sawing with
      sdu := { sawing.sdu with stallTimer := stall, confirmTimer := watch, confirm := c } }
    (setView blind .sawCurrent 0).current = none ∧ contactorValue sawing.sdu.contactor = some 2 ∧
    runs (.sduSampleSet blind) (s (.running 700) .stopped .confirmed) (fun t => t.sdu.stallTimer = .frozen 700) = true ∧
    runs (.sduSampleSet (cutting 20000 600)) (s (.frozen 700) .stopped .confirmed)
      (fun t => t.sdu.stallTimer = .running 700) = true ∧
    runs (.sduSampleSet (setOf [fresh .sawButton 0 0] .stale)) (s .stopped (.suspended 500 false) .pending)
      (fun t => t.sdu.confirmTimer = .running 500 && t.sdu.confirm = .pending) = true ∧
    runs (.sduSampleSet blind) (s .stopped (.suspended 500 false) .pending)
      (fun t => t.sdu.confirmTimer = .stopped && t.sdu.confirm = .confirmed) = true ∧
    runs (.sduSampleSet (pressed 0 1)) (s .stopped .stopped .confirmed)
      (fun t => t.sdu.confirmTimer = .running 1000000 && t.sdu.confirm = .pending) = true := by decide

/-- R113, R119: CLEAR leaves a FAILED watch; the next set that finds the contactor still closed starts it afresh, and its
expiry brings the saw back to FAULT. In FAULT the watch stays FAILED. -/
theorem test_contactor_still_closed_after_clear :
    let failed := fun x => withEntry .saw 1 sawImage { sawIn x with sdu := { (sawIn x).sdu with
      reason := .noConfirm, confirm := .failed, confirmTimer := .stopped } }
    (failed .stopped).sdu.contactor = .off ∧
    runs .sawClear (failed .fault) (fun t => t.sdu.state = .stopped && t.sdu.confirm = .failed) = true ∧
    runs (.sduSampleSet (pressed 0 1)) (failed .stopped) (fun t =>
      t.sdu.confirm = .pending && t.sdu.confirmTimer = .running 1000000 &&
      runs .confirmTimerExpiry t (fun u => u.sdu.state = .fault && u.now = 1000000)) = true ∧
    runs (.sduSampleSet (pressed 0 1)) (failed .fault) (fun t =>
      t.sdu.confirm = .failed && t.sdu.confirmTimer = .stopped) = true := by decide

/-- RUN with a servable feeder 5 in a state, with every timer running to 5. -/
def feeder5 (x : FeederState) : State :=
  let s := inMode .run
  setFeeder 4 { feeder 4 s with
    state := x, values := some (feederEntry feederImage), entryState := .good, cls := 3, watch := .running 5
    settle := .running 5, trip := .running 5, reclose := .running 5 } s

theorem witness_WantsMoveTheFeeder :
    (∀ x ∈ feederStates, (feeder5 x).mainPresent = true ∧ (feeder 4 (feeder5 x)).state = x ∧
      servable (feeder 4 (feeder5 x)) = true ∧ feederAbsent (feeder 4 (feeder5 x)) = false) ∧
    feederAbsent (feeder 0 (feeder5 .off)) = true ∧ (5#32).toNat = (4 : Feeder).val + 1 ∧ (0#32).toNat = 0 ∧
    12 < (13#32).toNat ∧ (1#32).toNat = (0 : Feeder).val + 1 ∧ (12#32).toNat = (11 : Feeder).val + 1 := by decide

/-- R167, R145: a want of the schedule finds the feeder absent as management does, and has no effect and no answer. -/
theorem test_schedule_want_is_judged :
    runs (.feederWantOn .schedule 1) State.reset (fun t => t = State.reset) = true ∧
    runs (.feederWantOn .management 1) State.reset (fun t => t = issue (plainAnswer .absent) State.reset) = true := by
  decide

theorem witness_ClearUnlocksTheFeeder :
    (∀ x ∈ feederStates, (feeder5 x).mainPresent = true ∧ (feeder 4 (feeder5 x)).state = x ∧
      feederAbsent (feeder 4 (feeder5 x)) = false ∧ servable (feeder 4 (feeder5 x)) = true) ∧
    (feeder5 .locked).tsu.mode = .run ∧
    (let s := setFeeder 4 { feeder 4 (feeder5 .locked) with desired := true } (feeder5 .locked)
     runs (.feederClear 5) s (fun t => (feeder 4 t).state = .shed) = true) ∧
    runs (.feederClear 5) (feeder5 .locked) (fun t => (feeder 4 t).state = .off && (feeder 4 t).reason = .none) = true ∧
    runs (.feederClear 13) (feeder5 .locked) (fun t => t.issued = [plainAnswer .badArgument]) = true := by decide

theorem witness_FeederTimersAct :
    (∀ x ∈ feederStates, (feeder5 x).mainPresent = true ∧ (feeder 4 (feeder5 x)).state = x ∧
      (feeder 4 (feeder5 x)).watch = .running 5 ∧ (feeder 4 (feeder5 x)).settle = .running 5 ∧
      (feeder 4 (feeder5 x)).trip = .running 5 ∧ (feeder 4 (feeder5 x)).reclose = .running 5) ∧
    servable (feeder 4 (feeder5 .tripped)) = true ∧ (feeder5 .tripped).tsu.mode = .run ∧
    servable (feeder 4 (feederIn 4 .tripped)) = false ∧
    runs (.tripTimerExpiry 4) (setFeeder 4 { feeder 4 (served none) with lastTrip := some 2300000, trip := .running 602299999 } (served none))
      (fun t => (feeder 4 t).state = .locked) = true ∧
    runs (.tripTimerExpiry 4) (setFeeder 4 { feeder 4 (served none) with lastTrip := some 2300000, trip := .running 602300000 } (served none))
      (fun t => (feeder 4 t).state = .tripped) = true := by decide

theorem witness_FeederNotices :
    (∀ x ∈ feederStates, (feeder5 x).mainPresent = true ∧ (feeder 4 (feeder5 x)).state = x) ∧
    (let r := { feeder 4 (feeder5 .on) with values := some { feederEntry feederImage with reducedLimit := 0 } }
     unservedTier { r with tier := .reduced } = true ∧ unservedTier { r with tier := .normal } = false) ∧
    (feeder5 .off).tsu.mode = .run ∧ servable (feeder 4 (feeder5 .off)) = true ∧
    runs (.fcuModeNotice .starting .run)
      (setFeeder 4 { feeder 4 (feeder5 .off) with desired := true } (feeder5 .off))
      (fun t => (feeder 4 t).state = .shed && (t.sbu.shedList.map (·.reason)) = [.startup]) = true ∧
    PlantMode.starting ≠ .run ∧ PlantMode.starting ≠ .tripped ∧ PlantMode.starting ≠ .stopping := by decide

/-- R142, R103: a tier that is not served ends the restore of an ON feeder, with its claim and the gap; R95: a notice into
RUN taken once TSU's mode is no longer RUN leaves the feeder OFF with reason PLANT. -/
theorem witness_FeederNotices_restore :
    let r := { feeder 0 waiting with
      state := .on, underRestore := true, values := some { feederEntry feederImage with reducedLimit := 0 } }
    let s := setFeeder 0 r waiting
    let wants := fun m => setFeeder 4 { feeder 4 (feeder5 .off) with desired := true }
      { feeder5 .off with tsu := { (feeder5 .off).tsu with mode := m } }
    unservedTier { r with tier := .reduced } = true ∧ s.sbu.restoring = some 0 ∧ (claims s).length = 1 ∧
    runs (.tierNotice 0 .reduced) s (fun t =>
      feeder 0 t = parked .off .allowance { r with tier := .reduced } && (claims t).isEmpty && t.sbu.restoring = none &&
      t.sbu.restoreGap = .running (s.sbu.balance.restoreGap * 1000000)) = true ∧
    (∀ m ∈ [PlantMode.stopping, .tripped], runs (.fcuModeNotice .starting .run) (wants m) (fun t =>
      feeder 4 t = parked .off .plant (feeder 4 (wants m)) && t.sbu.shedList = []) = true) := by decide

/-- R144: at a change out of RUN a feeder that is OFF takes the reason PLANT, and a LOCKED one stays. -/
theorem witness_FeederNotices_plant :
    runs (.fcuModeNotice .run .tripped) (feeder5 .off) (fun t => (feeder 4 t).reason = .plant) = true ∧
    runs (.fcuModeNotice .run .tripped) (feeder5 .locked) (fun t => (feeder 4 t).state = .locked) = true ∧
    runs (.fcuModeNotice .run .stopping) waiting (fun t =>
      (feeder 0 t).state = .off && (claims t).isEmpty && t.sbu.restoring = none) = true := by decide

/-- R144: a notice of a change that is not out of RUN has no effect, though it is of a trip. -/
theorem test_trip_from_starting_leaves_the_feeders :
    runs (.fcuModeNotice .starting .tripped) (feeder5 .off) (fun t => t = feeder5 .off) = true ∧
    runs (.sduModeNotice .starting .tripped) (sawIn .stopped) (fun t => t = sawIn .stopped) = true := by decide

/-- Feeder 5 in a state, with its entry in the active bank and the timers stopped. -/
def metered5 (x : FeederState) : State :=
  let s := withEntry .feeders 5 feederImage { inMode .run with tsu := (shaftAt .run .fresh 600).tsu }
  setFeeder 4 { feeder 4 s with
    state := x, values := some (feederEntry feederImage), entryState := .good, cls := 3 } s

/-- A set with feeder 5's breaker and current and the line voltage. -/
def feederSet (breaker amps volts : Nat) : SampleSet :=
  setOf [fresh .feederBreaker 5 breaker, fresh .feederCurrent 5 amps, fresh .lineVoltage 0 volts] .stale

theorem witness_SampleSetsSuperviseTheFeeders :
    (∀ x ∈ feederStates, (metered5 x).mainPresent = true ∧ (feeder 4 (metered5 x)).state = x ∧
      ownerReads .feeders 5 (metered5 x) = .good feederImage) ∧
    TablesCanonical (metered5 .on) ∧ (metered5 .on).tsu.mode = .run ∧
    (metered5 .on).tsu.protection = some (protectionEntry protectionImage) ∧
    (protectionEntry protectionImage).vHigh = 2530 ∧ (protectionEntry protectionImage).ovCount = 3 ∧
    (setView (feederSet 1 1600 2530) .feederBreaker 5).current = some 1 ∧
    (setView (feederSet 1 1600 2530) .feederCurrent 5).current = some 1600 := by
  unfold TablesCanonical; decide

theorem witness_SampleSetsSuperviseTheFeeders_runs :
    runs (.fcuSampleSet (feederSet 1 1600 2530)) (metered5 .on) (fun t =>
      (feeder 4 t).trip = .stopped && t.fcu.overVoltage = 0) = true ∧
    runs (.fcuSampleSet (feederSet 0 1601 2531)) (metered5 .on) (fun t =>
      (feeder 4 t).trip = .running 2000000 && (feeder 4 t).watch = .running 1000000 && t.fcu.overVoltage = 1) = true ∧
    runs (.fcuSampleSet (feederSet 1 0 2531)) { metered5 .on with fcu := { (metered5 .on).fcu with overVoltage := 2 } }
      (fun t => (feeder 4 t).state = .shed && (feeder 4 t).reason = .voltage) = true ∧
    runs (.fcuSampleSet (feederSet 1 0 2300)) (metered5 .closing) (fun t =>
      (feeder 4 t).state = .on && (feeder 4 t).settle = .running 3000000) = true ∧
    runs (.fcuSampleSet (feederSet 1 0 2300)) (feederIn 4 .on) (fun t =>
      (feeder 4 t).state = .off && (feeder 4 t).reason = .table) = true := by decide

/-- R129, R137, R138, R141: a servable feeder that is SHED, RESTORING, TRIPPED or OFF stands; a watch that runs runs on at
breaker 0, and a trip timer above the limit; a set without LINE-VOLTAGE leaves the count. -/
theorem witness_SampleSetsSuperviseTheFeeders_stand :
    let timed := setFeeder 4 { feeder 4 (metered5 .on) with watch := .running 77, trip := .running 88 }
      { metered5 .on with fcu := { (metered5 .on).fcu with overVoltage := 2 } }
    let blind := setOf [fresh .feederBreaker 5 0, fresh .feederCurrent 5 1601] .stale
    (∀ x ∈ [FeederState.shed, .restoring, .tripped, .off], servable (feeder 4 (metered5 x)) = true ∧
      runs (.fcuSampleSet (feederSet 0 1601 2300)) (metered5 x) (fun t => feeder 4 t = feeder 4 (metered5 x)) = true) ∧
    (setView blind .lineVoltage 0).current = none ∧
    runs (.fcuSampleSet blind) timed (fun t => feeder 4 t = feeder 4 timed && t.fcu.overVoltage = 2) = true := by decide

theorem witness_EnergyIsMetered :
    (feeder5 .on).mainPresent = true ∧ feederPresent (feeder 4 (feeder5 .on)) = true ∧
    feederPresent (feeder 0 (feeder5 .on)) = false ∧
    (setView (setOf [fresh .feederPower 5 0] .stale) .feederPower 5).current = some 0 ∧
    (setView (setOf [fresh .feederPower 5 30000] .stale) .feederPower 5).current = some 30000 ∧
    (setView (setOf [] .stale) .feederPower 5).current = none ∧
    (sawIn .run).sdu.values.any (·.present) = false ∧
    (let s := { sawing with sdu := { sawing.sdu with values := some (sawEntry sawImage) } }
     s.sdu.values.any (·.present) = true) ∧
    (let s := { State.reset with eau := { State.reset.eau with
       accounts := State.reset.eau.accounts.set 13 { Account.zero with remainder := 3599999, standard := 4294967295 } } }
     runs (.eauMeteringReport 0 0) s (fun t => (account 13 t).remainder = 3599999) = true ∧
     runs (.eauMeteringReport 1 0) s (fun t => (account 13 t).remainder = 0 && (account 13 t).atMax) = true) := by decide

theorem witness_BandDayBoundaryAndReset :
    State.reset.mainPresent = true ∧ TablesCanonical State.reset ∧ (1#32).toNat = (0 : Fin 14).val + 1 ∧
    (14#32).toNat = (13 : Fin 14).val + 1 ∧ (0#32).toNat = 0 ∧ 14 < (15#32).toNat ∧
    (inMode .commission).tsu.mode = .commission ∧ (inMode .standby).tsu.mode ≠ .commission ∧
    State.reset.eau.tiers[0] = .normal ∧
    (after (.accountReset 1) { inMode .commission with eau := { State.reset.eau with
      tiers := State.reset.eau.tiers.set 0 .reduced } }).issued = [.tierNotice 0 .normal, plainAnswer .done] := by
  unfold TablesCanonical; decide

theorem witness_CalendarCountsAndIsSet :
    calendarCounts State.reset = true ∧ CalendarInRange State.reset.csu ∧
    CalendarInRange { State.reset.csu with year := 2099, month := 12, day := 31, hour := 23, minute := 59, second := 59 } ∧
    CalendarInRange { State.reset.csu with year := 2024, month := 2, day := 29 } ∧
    ¬CalendarInRange { State.reset.csu with year := 2025, month := 2, day := 29 } ∧
    secondOfDay { State.reset.csu with hour := 23, minute := 59, second := 59 } + 1 = 86400 ∧
    secondOfDay { State.reset.csu with hour := 23, minute := 59, second := 58 } + 1 < 86400 := by
  unfold CalendarInRange; decide

theorem witness_ScheduleRunsMatchingEntries :
    let s := withEntry .schedule 16 (image [0x006FFF84, 0x90000000]) (withEntry .schedule 1 (image [0x006FFF80, 0x90000000]) State.reset)
    let e := scheduleEntry (image [0x006FFF80, 0x90000000])
    s.mainPresent = true ∧ TablesCanonical s ∧ ownerReads .schedule 1 s = .good (image [0x006FFF80, 0x90000000]) ∧
    ownerReads .schedule 16 s = .good (image [0x006FFF84, 0x90000000]) ∧ e.enabled = true ∧ e.minute = 0 ∧
    e.hour = some 6 ∧ e.weekdays.testBit 5 = true ∧ e.date = none ∧ e.holiday = .any ∧
    actionSkipped e.action s = true := by
  unfold TablesCanonical; decide

theorem witness_WritesReachTheStandbyBank :
    State.reset.mainPresent = true ∧ TablesCanonical State.reset ∧ addressed 8 1 = some (.balance, 1) ∧
    addressed 1 64 = some (.slotMap, 64) ∧ addressed 1 0 = some (.slotMap, 0) ∧ addressed 1 65 = none ∧
    addressed 8 0 = none ∧ addressed 12 1 = none ∧ tableOfId (0#8).toNat = none ∧ tableOfId (12#8).toNat = none ∧
    tableOfId (11#8).toNat = some .schedule ∧ encodable .balance 1 balanceImage = true ∧
    encodable .slotMap 1 (image [0xC0000000]) = false ∧ writeAllowed .balance State.reset.tsu.mode = true ∧
    writeAllowed .slotMap (inMode .run).tsu.mode = false ∧ (table .balance State.reset).pending = false ∧
    (table .balance (after (.swap 8 0) (after (.writeEntry 8 1 false balanceImage) State.reset))).pending = true := by
  unfold TablesCanonical; decide

/-- R179: with the overflow flag set, the record that a write frees goes to the first entry without one. -/
theorem witness_WritesReachTheStandbyBank_overflow :
    let s := storeEntry .saw .bankA 1 (some .damaged) (storeEntry .balance .bankB 1 (some .damaged) State.reset)
    let s := { s with tbs := { s.tbs with damagedList := [⟨.balance, .bankB, 1⟩], overflow := true } }
    TablesCanonical s ∧ entryAt .saw .bankA 1 s = some .damaged ∧
    runs (.writeEntry 8 1 false balanceImage) s (fun t =>
      t.tbs.damagedList = [⟨.saw, .bankA, 1⟩] && !t.tbs.overflow) = true := by
  unfold TablesCanonical; decide

/-- R178: COPY-ACTIVE finds a double error in the entry it writes over. -/
theorem test_copy_finds_a_double_error_in_its_target :
    let s := storeEntry .balance .bankB 1 (some (.good balanceImage .double)) (withEntry .balance 1 balanceImage State.reset)
    TablesCanonical s ∧ entryAt .balance .bankB 1 s = some (.good balanceImage .double) ∧
    runs (.copyActive 8) s (fun t =>
      t.issued = [.latchNotice .tableDamaged, plainAnswer .done] && t.tbs.damagedList = [] &&
      entryAt .balance .bankB 1 t = some (.good balanceImage .clean)) = true := by
  unfold TablesCanonical; decide

theorem witness_SwapsAndReads :
    let s := after (.writeEntry 8 1 false balanceImage) State.reset
    s.mainPresent = true ∧ TablesCanonical s ∧ tableOfId (8#8).toNat = some .balance ∧ tableOfId (12#8).toNat = none ∧
    addressed 8 2 = none ∧ addressed 8 1 = some (.balance, 1) ∧ writeAllowed .balance s.tsu.mode = true ∧
    writeAllowed .slotMap (inMode .run).tsu.mode = false ∧ (0#8 : BitVec 8) = (table .balance s).generation ∧
    (1#8 : BitVec 8) ≠ (table .balance s).generation ∧ (table .balance s).pending = false ∧
    tableIndexes .balance = [1] ∧ standbyReads .balance 1 s = .good balanceImage ∧
    entryValid .balance 1 balanceImage = true ∧ standbyReads .balance 1 State.reset = .empty ∧
    (tableIndex .balance).val < 8 ∧
    (let t := after (.swap 8 0) s
     (1#8 : BitVec 8) = (table .balance t).generation ∧ (table .balance t).pending = true) := by
  unfold TablesCanonical; decide

/-- R177, R178, R179: what a READ-ENTRY does with a single-bit error, with a double one, and with a double one while the
list is full. -/
theorem witness_SwapsAndReads_errors :
    let s := fun e : BitError => storeEntry .balance .bankA 1 (some (.good balanceImage e)) State.reset
    let old := { s (.single 5) with tbs := { (s (.single 5)).tbs with corrections := 65535 } }
    let full := { s .double with tbs := { (s .double).tbs with
      damagedList := (List.range 16).map fun i => ⟨.schedule, .bankB, i + 1⟩ } }
    TablesCanonical (s (.single 5)) ∧ entryAt .balance .bankA 1 (s .double) = some (.good balanceImage .double) ∧
    runs (.readEntry 8 .active 1) (s (.single 5)) (fun t =>
      t.issued = [.latchNotice .memoryCorrected, .ownerAnswer .done (wordsOf (0 :: balanceImage.toList))] &&
      t.tbs.lastCorrection = some ⟨.balance, .bankA, .active, 1, 5⟩ && t.tbs.corrections = 1) = true ∧
    runs (.readEntry 8 .active 1) old (fun t => t.tbs.corrections = 65535) = true ∧
    runs (.readEntry 8 .active 1) (s .double) (fun t =>
      t.issued = [.latchNotice .tableDamaged, .ownerAnswer .damaged (wordsOf [0])] &&
      entryAt .balance .bankA 1 t = some .damaged && t.tbs.damagedList = [⟨.balance, .bankA, 1⟩]) = true ∧
    runs (.readEntry 8 .active 1) full (fun t =>
      t.tbs.overflow && t.tbs.damagedList = full.tbs.damagedList && entryAt .balance .bankA 1 t = some .damaged) = true := by
  unfold TablesCanonical; decide

/-- A table whose standby bank fails at its second TRIM, at its second CYCLE-PERIOD, or at an f_set out of range. -/
def twice (t : TableId) (img : Image) : State :=
  let fill := fun s i => storeEntry t .bankB i (some (.good img .clean)) s
  (tableIndexes t).foldl fill State.reset

/-- R175, R194, R180: the index answered is the first that fails, and every answer for a table carries its state. -/
theorem witness_SwapsAndReads_failures :
    let trim := image [0xC00003E8]
    (ballastEntry trim).present = true ∧ (ballastEntry trim).trim = true ∧ entryValid .ballast 1 trim = true ∧
    runs (.swap 2 0) (twice .ballast trim) (fun t => t.issued = [.ownerAnswer .invalid (wordsOf [0, 2])]) = true ∧
    (regulatorEntry (image [0xAFC70200, 0x00400000])).1 = 44999 ∧
    runs (.swap 3 0) (twice .regulator (image [0xAFC70200, 0x00400000]))
      (fun t => t.issued = [.ownerAnswer .invalid (wordsOf [0, 1])]) = true ∧
    runs (.readEntry 8 .active 2) (after (.swap 8 0) (twice .balance balanceImage)) (fun t =>
      t.issued.getLast? = some (.ownerAnswer .badArgument
        (wordsOf [tableStateWord (table .balance (after (.swap 8 0) (twice .balance balanceImage)))]))) = true := by decide

theorem witness_SwapsAndReads_samples :
    slotRole cycleSlot = .sample .cyclePeriod 0 1024 0 3 ∧ entryValid .slotMap 1 cycleSlot = true ∧
    entryValid .slotMap 0 (image [10]) = true ∧
    (let s := storeEntry .slotMap .bankB 0 (some (.good (image [10]) .clean)) (twice .slotMap cycleSlot)
     standbyReads .slotMap 1 s = .good cycleSlot ∧ standbyReads .slotMap 2 s = .good cycleSlot) := by decide

theorem witness_LiveReadsOnlyAnswer :
    State.reset.mainPresent = true ∧ (0#32).toNat = (0 : Fin 64).val ∧ (63#32).toNat = (63 : Fin 64).val ∧
    (64#32).toNat = 64 ∧ 64 < (65#32).toNat ∧ (12#32).toNat ≤ 12 ∧ 12 < (13#32).toNat ∧
    toRestore.sbu.shedList[(0#32).toNat]? = some { feeder := 6, cls := 5, reason := .deficit, order := 1 } ∧
    toRestore.sbu.shedList[(11#32).toNat]? = none ∧ (1#32).toNat = (0 : Feeder).val + 1 ∧
    (14#32).toNat = (13 : Fin 14).val + 1 ∧ 15 < (16#32).toNat ∧ (15#32).toNat ≤ 15 ∧
    State.reset.tbs.lastCorrection = none ∧ State.reset.frg.summary[(0#32).toNat]? = none ∧ (59#32).toNat < 60 ∧
    60 ≤ (60#32).toNat ∧
    (after (.readEntry 8 .active 1)
      (storeEntry .balance .bankA 1 (some (.good balanceImage (.single 5))) State.reset)).tbs.lastCorrection =
        some { table := .balance, bank := .bankA, role := .active, index := 1, syndrome := 5 } ∧
    (after (.frgMinuteEvent { year := 2025, month := 6, day := 14, hour := 0, minute := 0, weekday := .saturday, valid := true })
      State.reset).frg.summary[(0#32).toNat]?.isSome = true := by decide

theorem witness_RequestsAreTakenInTurn :
    let s := withEntry .protection 1 protectionImage State.reset
    s.mainPresent = true ∧ s.mmb.response = none ∧ s.mmb.outstanding = none ∧ (region 255 12 1).owner.toNat = 255 ∧
    (region 0 12 1).owner.toNat = 0 ∧ (region 32 12 1).owner.toNat = 32 ∧ (region 254 12 1).owner.toNat = 254 ∧
    (region 1 12 1).owner.toNat = 1 ∧ (region 31 12 31).owner.toNat = 31 ∧ (region 30 12 31).eligibleFrom = 31 ∧
    (region 6 0 1).kind.toNat = 0 ∧ (region 6 15 1).kind.toNat = 15 ∧ (region 6 12 1).kind.toNat = 12 ∧
    requestEvent 12 (wordsOf []) = some .attentionRead ∧ requestEvent 5 (wordsOf []) = none ∧
    activeReads .protection 1 s = .good protectionImage ∧ (protectionEntry protectionImage).positions = 32 ∧
    (protectionEntry protectionImage).positions.getLsbD 5 = true ∧
    (protectionEntry protectionImage).positions.getLsbD 13 = false ∧ activeReads .protection 1 State.reset = .empty ∧
    (after (.mmbRequestRegion (region 6 12 1)) s).mmb.outstanding.isSome = true ∧
    (after (.mmbRequestRegion (region 14 14 1)) s).mmb.response.isSome = true := by decide

/-- R183, R186: a GOOD PROTECTION read gives the list in use and the last GOOD list; with the entry DAMAGED the last GOOD
list is used, and with none every position is; a double error found by the read is listed. -/
theorem witness_RequestsAreTakenInTurn_lists :
    let request := Instr.mmbRequestRegion (region 14 14 1)
    let good := withEntry .protection 1 protectionImage State.reset
    let broken := storeEntry .protection .bankA 1 (some (.good protectionImage .double)) State.reset
    let known := { broken with mmb := { broken.mmb with lastGoodAuth := some 32 } }
    activeReads .protection 1 known = .damaged ∧ TablesCanonical known ∧
    runs request good (fun t => t.mmb.authInUse = .positions 32 && t.mmb.lastGoodAuth = some 32) = true ∧
    runs request known (fun t => t.mmb.authInUse = .positions 32 && t.mmb.lastGoodAuth = some 32 &&
      (t.mmb.response.map (·.status)) = some .refusedAuth && t.tbs.damagedList = [⟨.protection, .bankA, 1⟩]) = true ∧
    runs request broken (fun t => t.mmb.authInUse = .every && t.mmb.lastGoodAuth = none &&
      t.mmb.outstanding = some (14, 3)) = true := by
  unfold TablesCanonical; decide

/-- Formats, Mailbox requests and answers: a READ-LIVE of the account of feeder 1, a FEEDER WANT-OFF of feeder 5, a
READ-ENTRY of the standby bank, and a READ-LIVE of no record kind. -/
theorem witness_RequestsAreTakenInTurn_codes :
    Asks 5 (wordsOf [8, 1, 0]) (.readLiveAccount 1 0) ∧ Asks 8 (wordsOf [5, 2]) (.feederWantOff .management 5) ∧
    Asks 1 (wordsOf [0x08010001]) (.readEntry 8 .standby 1) ∧ (∀ e, ¬Asks 5 (wordsOf [12]) e) ∧
    ∀ e, ¬Asks 6 (wordsOf [7]) e :=
  ⟨(requestEvent_iff ..).1 (by decide), (requestEvent_iff ..).1 (by decide), (requestEvent_iff ..).1 (by decide),
    not_asks (by decide), not_asks (by decide)⟩

/-- A request of position 6 for the regulator record or for the newest minute, page 0. -/
def asking (kind : Nat) : RequestRegion := { region 6 kind 1 with words := wordsOf [if kind = 5 then 2 else 0] }

theorem witness_LiveReadsOnlyAnswer_taken :
    let s := after (.mmbRequestRegion (asking 5)) State.reset
    requestEvent 5 (asking 5).words = some (.readLiveRegulator 0) ∧
    requestEvent 11 (asking 11).words = some (.summaryRead 0 0) ∧
    (s.mmb.reading.map (·.event)) = some (.readLiveRegulator 0) ∧ State.reset.mmb.reading = none ∧
    (s.mmb.reading.map (·.words)) = (readReply (.readLiveRegulator 0) State.reset).map (·.2) ∧
    requestEvent 5 (wordsOf [8, 1, 0]) = some (.readLiveAccount 1 0) := by decide

/-- R36, R196: the regulator record is answered as it stood when MMB took the request, not as a sample set left it. -/
theorem test_read_is_of_its_taking :
    let s := after (.mmbRequestRegion (asking 5)) fittedBallast
    let t := after .frgSecondEvent (after (.frgSampleSet (setOf [] .never)) s)
    (regulatorReply 0 t).2 ≠ (regulatorReply 0 s).2 ∧
    runs (.readLiveRegulator 0) t (fun u =>
      u.issued.getLast? = some (.ownerAnswer .done (regulatorReply 0 fittedBallast).2)) = true := by decide

theorem witness_AnswersAndAttention :
    let s := after (.mmbRequestRegion (region 6 12 1)) (withEntry .protection 1 protectionImage State.reset)
    s.mainPresent = true ∧ s.mmb.outstanding = some (6, 3) ∧ State.reset.mmb.outstanding = none ∧
    (0x001FFFFF#32).toNat < 2 ^ 21 ∧ 2 ^ 21 ≤ (0x00200000#32).toNat := by decide

end Sys2Proof.Tests
end

section
/-! PROOFS. Measurement Intake: how a REJECTED or LOST closure ages the records in use (spec/02, R26). -/

namespace Sys2Proof.Machine

/-! ### Laws of the intake -/

theorem Vec.getElem_ofFn {α : Type} {n : Nat} (f : Fin n → α) (k : Fin n) : (Vec.ofFn f)[k] = f k := by
  simp [Vec.ofFn]

/-- R21, R26: a record ages exactly when it has a value, to at most 255. -/
theorem ageRecord_eq (r : QRecord) :
    ageRecord r = if r.value.isSome = true then { r with age := min (r.age + 1) 255 } else r := by
  cases h : r.value <;> simp [ageRecord, saturate255, h]

theorem intakeBad_records (s : State) (k : Fin 64) :
    (intakeBad s).miu.records[k] =
      if (recordUse k.val s).isSome = true ∧ s.miu.records[k].value.isSome = true then
        { s.miu.records[k] with age := min (s.miu.records[k].age + 1) 255 }
      else s.miu.records[k] :=
  calc (intakeBad s).miu.records[k]
    _ = if (recordUse k.val s).isSome = true then ageRecord s.miu.records[k] else s.miu.records[k] :=
      Vec.getElem_ofFn _ k
    _ = _ := by rw [ageRecord_eq, ite_and]

theorem intakeBad_frame (s : State) :
    intakeBad s = { s with miu := { s.miu with records := (intakeBad s).miu.records } } := rfl

theorem miuRoundClosure_bad {c : Closure} (h : c = .rejected ∨ c = .lost) (s : State) :
    miuRoundClosure c s = intakeBad s := by
  obtain rfl | rfl := h
  · rfl
  · rfl

theorem exec_miuRoundClosure (c : Closure) {s : State} (h : s.mainPresent = true) :
    exec (.miuRoundClosure c) s = .next (miuRoundClosure c (take (.miuRoundClosure c) s)) :=
  congrArg _ (powered_true s _ h)

/-! ### Ageing -/

/-- Settles O17: with the main supply present the closure runs as `intakeBad` after its event is taken, so the frame and
the 64 records are those of `intakeBad`; the taking leaves the store and the records, so which channels are in use and
what they hold is as before (log 36). -/
theorem badClosuresAgeRecords : Obligations.BadClosuresAgeRecords := by
  intro c s hmain hbad
  refine ⟨intakeBad (take (.miuRoundClosure c) s), ?runs, ?frame, ?records⟩
  case runs => rw [exec_miuRoundClosure c hmain, miuRoundClosure_bad hbad]
  case frame => exact intakeBad_frame (take (.miuRoundClosure c) s)
  case records => exact intakeBad_records (take (.miuRoundClosure c) s)

end Sys2Proof.Machine
end

section
/-! PROOFS. Frequency Regulator: what the reads of a composition find, what a composition brings into force, and a mode
notice (spec/03, R40, R48 to R53). -/

namespace Sys2Proof.Machine

/-! ### The entries that a composition reads -/

theorem EntriesReadAlike.refl (s : State) : EntriesReadAlike s s := fun _ _ _ => rfl

theorem EntriesReadAlike.trans {s t u : State} (h : EntriesReadAlike s t) (k : EntriesReadAlike t u) :
    EntriesReadAlike s u := fun x b i => (k x b i).trans (h x b i)

theorem takePending_entriesReadAlike (t : TableId) (s : State) : EntriesReadAlike s (takePending t s) := by
  intro u b j
  unfold takePending
  split
  · simp only [entryAt, takeSwap, setTable_table]
    split
    case isTrue h => subst h; cases b <;> rfl
    case isFalse => rfl
  · rfl

theorem readActives_entriesReadAlike (t : TableId) (is : List Nat) (s : State) :
    EntriesReadAlike s (readActives t is s).2 := by
  induction is generalizing s with
  | nil => exact EntriesReadAlike.refl s
  | cons i rest ih => exact EntriesReadAlike.trans (fun u c j => readBank_keeps t u _ c i j s) (ih _)

/-- The ballast that a composition sees at a state: the entries as the owner's reads give them, with the elements whose
status reports a fault (R48, R49). -/
def fittedOf (faulty : Element → Bool) (s : State) : Fitted :=
  { entries := Vec.ofFn fun n => elementOf n s, faults := Vec.ofFn faulty }

@[simp] theorem fittedOf_entries (faulty : Element → Bool) (s : State) (n : Element) :
    (fittedOf faulty s).entries[n] = elementOf n s := Vec.getElem_ofFn _ n

@[simp] theorem fittedOf_faults (faulty : Element → Bool) (s : State) (n : Element) :
    (fittedOf faulty s).faults[n] = faulty n := Vec.getElem_ofFn _ n

theorem Vec.ofFn_getElem {α : Type} {n : Nat} (v : Vector α n) : Vec.ofFn (fun k : Fin n => v[k]) = v :=
  Vector.ext fun i hi => Vec.getElem_ofFn (fun k : Fin n => v[k]) ⟨i, hi⟩

/-- The eight reads of a composition return what an owner's read of each entry gives (R176). -/
theorem readActives_ballast (s : State) (n : Element) :
    (readActives .ballast ballastIndexes (takePending .ballast s)).1.getD n.val .empty =
      ownerReads .ballast (n.val + 1) s := by
  rw [← ownerReads_result, readActive_result, readActives_result]
  fin_cases n <;> rfl

theorem readBallast_fitted (s : State) : (readBallast s).1 = fittedOf (fun n => s.frg.faults[n]) s := by
  have hframe := ((takePending_storeOnly .ballast s).trans (readActives_storeOnly .ballast ballastIndexes _)).1
  simp only [readBallast, fittedOf, readActives_ballast, Vec.ofFn_getElem, elementOf]
  rw [hframe]

theorem readBallast_swapped (s : State) : (readBallast s).2.1 = (table .ballast s).pending := by
  simp only [readBallast]

theorem readBallast_state (s : State) :
    (readBallast s).2.2 = (readActives .ballast ballastIndexes (takePending .ballast s)).2 := by
  simp only [readBallast]

theorem readBallast_storeOnly (s : State) : StoreOnly s (readBallast s).2.2 := by
  rw [readBallast_state]
  exact (takePending_storeOnly .ballast s).trans (readActives_storeOnly .ballast ballastIndexes _)

theorem readBallast_entriesReadAlike (s : State) : EntriesReadAlike s (readBallast s).2.2 := by
  rw [readBallast_state]
  exact (takePending_entriesReadAlike .ballast s).trans (readActives_entriesReadAlike .ballast ballastIndexes _)

/-! ### Sound elements (R49) -/

theorem soundStep_iff (b : Fitted) (n : Element) :
    soundStep b n = true ↔ ∃ e, b.entries[n] = some e ∧ e.trim = false ∧ b.faults[n] = false := by
  unfold soundStep
  cases b.entries[n] <;> simp

theorem trimSound_iff (b : Fitted) :
    trimSound b = true ↔
      ∃ (n : Element) (e : BallastEntry), b.entries[n] = some e ∧ e.trim = true ∧ b.faults[n] = false := by
  simp [trimSound, Option.any_eq_true, ← exists_and_right, and_assoc]

theorem trimPresent_iff (b : Fitted) :
    trimPresent b = true ↔ ∃ (n : Element) (e : BallastEntry), b.entries[n] = some e ∧ e.trim = true := by
  simp [trimPresent, Option.any_eq_true]

theorem soundRating_of_unsound_step {b : Fitted} {n : Element} (h : ¬soundStep b n = true) :
    soundRating b false n = 0 := by
  rw [soundStep_iff] at h
  unfold soundRating
  split
  case h_1 e he => exact if_neg fun hs => h ⟨e, he, hs⟩
  case h_2 => rfl

theorem soundRating_of_unsound_trim {b : Fitted} (h : ¬trimSound b = true) (n : Element) :
    soundRating b true n = 0 := by
  rw [trimSound_iff] at h
  unfold soundRating
  split
  case h_1 e he => exact if_neg fun hs => h ⟨n, e, he, hs⟩
  case h_2 => rfl

theorem trimRatingOf_of_unsound {b : Fitted} (h : ¬trimSound b = true) : trimRatingOf b = 0 := by
  simp [trimRatingOf, soundRating_of_unsound_trim h]

/-! ### Step sets (R50, R52) -/

@[simp] theorem fullSet_getElem (b : Fitted) (n : Element) : (fullSet b)[n] = soundStep b n := Vec.getElem_ofFn _ n

theorem holdsSet_iff (b : Fitted) (swapped : Bool) (demand : Nat) (steps : Vector Bool 8) :
    holdsSet b swapped demand steps = true ↔
      stepSumOf b steps ≤ demand ∧ demand ≤ stepSumOf b steps + trimRatingOf b ∧
      (∀ n : Element, steps[n] = true → soundStep b n = true) ∧ swapped = false := by
  have hall : allSound b steps = true ↔ ∀ n : Element, steps[n] = true → soundStep b n = true := by
    simp [allSound, or_iff_not_imp_left]
  simp only [holdsSet, Bool.and_eq_true, decide_eq_true_eq, hall, Bool.not_eq_true']
  constructor
  · rintro ⟨⟨⟨h, k⟩, ha⟩, hs⟩
    exact ⟨h, by omega, ha, hs⟩
  · rintro ⟨h, k, ha, hs⟩
    exact ⟨⟨⟨h, by omega⟩, ha⟩, hs⟩

/-- The sum of the ratings of the steps of a set whose number lies below a bound: what the rebuild has joined before it
visits that number. -/
def stepSumBelow (b : Fitted) (steps : Vector Bool 8) (k : Nat) : Nat :=
  ((List.finRange 8).map fun m => if m.val < k ∧ steps[m] = true then soundRating b false m else 0).sum

theorem stepSumBelow_congr {b : Fitted} {steps steps' : Vector Bool 8} {k : Nat}
    (h : ∀ m : Element, m.val < k → steps'[m] = steps[m]) : stepSumBelow b steps' k = stepSumBelow b steps k := by
  unfold stepSumBelow
  congr 1
  refine List.map_congr_left fun m _ => ?_
  by_cases hm : m.val < k
  · simp only [h m hm]
  · simp only [hm, false_and]

theorem stepSumBelow_succ (b : Fitted) (steps : Vector Bool 8) (n : Element) :
    stepSumBelow b steps (n.val + 1) =
      stepSumBelow b steps n.val + if steps[n] = true then soundRating b false n else 0 := by
  have hsplit : ∀ m : Element, (if m.val < n.val + 1 ∧ steps[m] = true then soundRating b false m else 0) =
      (if m.val < n.val ∧ steps[m] = true then soundRating b false m else 0) +
        if m = n then (if steps[m] = true then soundRating b false m else 0) else 0 := by
    intro m
    rcases lt_trichotomy m n with h | h | h
    · have := Fin.lt_def.1 h
      simp [h.ne, this, Nat.lt_succ_of_lt this]
    · simp [h]
    · have := Fin.lt_def.1 h
      have hs : ¬m.val < n.val + 1 := by omega
      simp [h.ne', this.not_gt, hs]
  simp only [stepSumBelow, ← Fin.sum_univ_def, hsplit, Finset.sum_add_distrib, Finset.sum_ite_eq', Finset.mem_univ,
    if_true]

/-- A rebuild that has visited the elements below a bound: no element beyond is in the set, the sum is that of the set,
and each element below is in it exactly when it is a sound step for which the demand left room (R50). -/
structure RebuiltBelow (b : Fitted) (demand k : Nat) (acc : Vector Bool 8 × Nat) : Prop where
  beyond : ∀ n : Element, k ≤ n.val → acc.1[n] = false
  sum    : acc.2 = stepSumBelow b acc.1 k
  joined : ∀ n : Element, n.val < k →
    (acc.1[n] = true ↔ soundStep b n = true ∧ stepSumBelow b acc.1 n.val + soundRating b false n ≤ demand)

/-- A visit decides the element visited, and no other. -/
theorem visitStep_getElem {b : Fitted} {demand : Nat} {acc : Vector Bool 8 × Nat} {n : Element} (h : acc.1[n] = false)
    (m : Element) :
    (visitStep b demand acc n).1[m] =
      if m = n then soundStep b n && decide (acc.2 + soundRating b false n ≤ demand) else acc.1[m] := by
  unfold visitStep
  by_cases hm : m = n
  · subst hm
    split <;> simp_all
  · have : n.val ≠ m.val := fun e => hm (Fin.ext e.symm)
    rw [if_neg hm]
    split <;> simp [this]

theorem visitStep_rebuiltBelow {b : Fitted} {demand : Nat} {acc : Vector Bool 8 × Nat} {n : Element}
    (h : RebuiltBelow b demand n.val acc) : RebuiltBelow b demand (n.val + 1) (visitStep b demand acc n) := by
  have hget := visitStep_getElem (b := b) (demand := demand) (h.beyond n le_rfl)
  have hbelow : ∀ k ≤ n.val, stepSumBelow b (visitStep b demand acc n).1 k = stepSumBelow b acc.1 k := fun k hk =>
    stepSumBelow_congr fun m hm => by rw [hget, if_neg (Fin.ne_of_lt (Fin.lt_def.2 (Nat.lt_of_lt_of_le hm hk)))]
  refine ⟨fun m hm => ?beyond, ?sum, fun m hm => ?joined⟩
  case beyond => rw [hget, if_neg (Fin.ne_of_gt (Fin.lt_def.2 hm)), h.beyond m (Nat.le_of_succ_le hm)]
  case sum =>
    rw [stepSumBelow_succ, hbelow _ le_rfl, ← h.sum, hget, if_pos rfl]
    unfold visitStep
    split <;> simp_all
  case joined =>
    rw [hbelow m.val (Nat.le_of_lt_succ hm), hget]
    by_cases hmn : m = n
    · subst hmn
      simp [h.sum]
    · rw [if_neg hmn]
      exact h.joined m (Nat.lt_of_le_of_ne (Nat.le_of_lt_succ hm) fun e => hmn (Fin.ext e))

/-- A visit of the elements in rising order, up to a bound. -/
theorem foldl_visitStep_rebuiltBelow (b : Fitted) (demand k : Nat) (hk : k ≤ 8) :
    RebuiltBelow b demand k (((List.finRange 8).take k).foldl (visitStep b demand) (Vector.replicate 8 false, 0)) := by
  induction k with
  | zero => exact ⟨fun n _ => by simp, by simp [stepSumBelow], fun n hn => absurd hn (Nat.not_lt_zero _)⟩
  | succ k ih =>
    have hlt : k < (List.finRange 8).length := by simpa using hk
    rw [← List.take_concat_get' _ k hlt, List.foldl_append]
    simpa using visitStep_rebuiltBelow (n := ⟨k, hk⟩) (ih (by omega))

/-- R50: the rebuilt set holds an element exactly when it is a sound step whose rating fits what the smaller numbers of
the set leave of the demand. -/
theorem rebuildSet_iff (b : Fitted) (demand : Nat) (n : Element) :
    (rebuildSet b demand)[n] = true ↔
      soundStep b n = true ∧ stepSumBelow b (rebuildSet b demand) n.val + soundRating b false n ≤ demand :=
  (foldl_visitStep_rebuiltBelow b demand 8 le_rfl).joined n n.isLt

/-! ### The trim share (R51) -/

theorem trimOf_unsound {b : Fitted} (h : ¬trimSound b = true) (d : Nat) : trimOf b d = (0, false) := by
  simp [trimOf, h]

theorem trimOf_within {b : Fitted} (h : trimSound b = true) {d : Nat} (hd : d ≤ trimRatingOf b) :
    trimOf b d = (roundHalfUp (255 * d) (trimRatingOf b), false) := by
  simp [trimOf, h, hd]

theorem trimOf_beyond {b : Fitted} (h : trimSound b = true) {d : Nat} (hd : trimRatingOf b < d) :
    trimOf b d = (255, true) := by
  simp [trimOf, h, hd]

/-- No residual asks for no trim. -/
theorem trimOf_zero (b : Fitted) : trimOf b 0 = (0, false) := by
  by_cases h : trimSound b = true
  · have hround : roundHalfUp (255 * 0) (trimRatingOf b) = 0 := by
      rcases Nat.eq_zero_or_pos (trimRatingOf b) with hr | hr
      · simp [roundHalfUp, hr]
      · exact Nat.div_eq_of_lt (by omega)
    rw [trimOf_within h (Nat.zero_le _), hround]
  · exact trimOf_unsound h 0

/-! ### What a composition brings into force -/

/-- The step set of a composition (R50, R52). -/
def composedSteps (b : Fitted) (swapped : Bool) (f : Frg) : Vector Bool 8 :=
  if f.state = .forcedFull then fullSet b
  else if holdsSet b swapped f.demand f.steps then f.steps else rebuildSet b f.demand

/-- The trim share of a composition, and whether it falls short (R51, R52). -/
def composedTrim (b : Fitted) (swapped : Bool) (f : Frg) : Nat × Bool :=
  if f.state = .forcedFull then (if trimSound b then 255 else 0, false)
  else trimOf b (f.demand - stepSumOf b (composedSteps b swapped f))

/-- Everything a composition does: FRG's set, sum, share and shortfall flag, its nine holding entries, and the notice of
a shortfall. -/
theorem compose_eq (b : Fitted) (swapped : Bool) (s : State) :
    compose b swapped s =
      { s with
        frg := { s.frg with
          steps := composedSteps b swapped s.frg
          stepSum := stepSumOf b (composedSteps b swapped s.frg)
          trimShare := (composedTrim b swapped s.frg).1
          shortfallSticky := (composedTrim b swapped s.frg).2 || s.frg.shortfallSticky }
        issued := s.issued ++ if (composedTrim b swapped s.frg).2 then [.latchNotice .compositionShortfall] else []
        rif := { s.rif with
          holding := { s.rif.holding with
            ballastStep := Vec.ofFn (stepCommand b (composedSteps b swapped s.frg))
            ballastTrim := if trimPresent b then some (composedTrim b swapped s.frg).1 else none } } } := by
  by_cases h : s.frg.state = .forcedFull
  · simp [compose, composeFull, composedSteps, composedTrim, h, applySet, writeBallast, updHolding, updFrg]
  · have hc : compose b swapped s = composeDemand b swapped s := by
      unfold compose
      split
      case h_1 hf => exact absurd hf h
      case h_2 => rfl
    rw [hc]
    simp only [composeDemand, composedTrim, composedSteps, if_neg h]
    generalize (if holdsSet b swapped s.frg.demand s.frg.steps = true then s.frg.steps
      else rebuildSet b s.frg.demand) = steps
    obtain ⟨share, short⟩ := trimOf b (s.frg.demand - stepSumOf b steps)
    cases short <;> simp [applySet, writeBallast, updHolding, updFrg, latch, issue]

theorem compose_frg (b : Fitted) (swapped : Bool) (s : State) :
    (compose b swapped s).frg = { s.frg with
      steps := composedSteps b swapped s.frg
      stepSum := stepSumOf b (composedSteps b swapped s.frg)
      trimShare := (composedTrim b swapped s.frg).1
      shortfallSticky := (composedTrim b swapped s.frg).2 || s.frg.shortfallSticky } := by
  rw [compose_eq]

theorem composedSteps_full {f : Frg} (h : f.state = .forcedFull) (b : Fitted) (swapped : Bool) :
    composedSteps b swapped f = fullSet b := if_pos h

theorem composedTrim_full {f : Frg} (h : f.state = .forcedFull) (b : Fitted) (swapped : Bool) :
    composedTrim b swapped f = (if trimSound b then 255 else 0, false) := if_pos h

theorem composedSteps_demand {f : Frg} (h : f.state ≠ .forcedFull) (b : Fitted) (swapped : Bool) :
    composedSteps b swapped f = if holdsSet b swapped f.demand f.steps then f.steps else rebuildSet b f.demand :=
  if_neg h

theorem composedTrim_demand {f : Frg} (h : f.state ≠ .forcedFull) (b : Fitted) (swapped : Bool) :
    composedTrim b swapped f = trimOf b (f.demand - stepSumOf b (composedSteps b swapped f)) := if_neg h

/-- A composition meets the rules for the elements as a state has them, once capacity and trim rating are recorded and
that state's step set and shortfall flag still stand (R49 to R53). -/
theorem compose_composed (faulty : Element → Bool) {s u : State}
    (hcapacity : u.frg.capacity = capacityOf (fittedOf faulty s))
    (hrating : u.frg.trimRating = trimRatingOf (fittedOf faulty s))
    (hsteps : u.frg.steps = s.frg.steps) (hsticky : u.frg.shortfallSticky = s.frg.shortfallSticky) :
    Composed faulty s (compose (fittedOf faulty s) (table .ballast s).pending u) := by
  have hentries := fittedOf_entries faulty s
  have hfaults := fittedOf_faults faulty s
  generalize fittedOf faulty s = b at *
  unfold Composed
  simp only [← hentries, ← hfaults, ← soundStep_iff, ← trimSound_iff]
  rw [compose_eq]
  dsimp only
  refine ⟨hcapacity, hrating, rfl, fun hfull => ?full, fun hdemand => ?demand, fun n => Vec.getElem_ofFn _ n,
    fun htrim => if_pos ((trimPresent_iff b).2 htrim), fun htrim => if_neg fun h => ?noTrim⟩
  case full =>
    rw [composedSteps_full hfull, composedTrim_full hfull]
    exact ⟨fun n => by rw [fullSet_getElem], fun h => if_pos h, fun h => if_neg h, hsticky⟩
  case demand =>
    have hholds := holdsSet_iff b (table .ballast s).pending u.frg.demand u.frg.steps
    rw [hsteps, ← hrating] at hholds
    rw [composedTrim_demand hdemand]
    refine ⟨fun hheld => ?held, fun hnot n => ?rebuilt, fun hunsound => ?unsound, fun hsound hd => ?within,
      fun hsound hd => ?beyond⟩
    case held => rw [composedSteps_demand hdemand, hsteps, if_pos (hholds.2 hheld)]
    case rebuilt =>
      rw [composedSteps_demand hdemand, hsteps, if_neg (mt hholds.1 hnot)]
      exact rebuildSet_iff b u.frg.demand n
    case unsound => simp [trimOf_unsound hunsound, hsticky]
    case within =>
      rw [hrating] at hd ⊢
      rw [trimOf_within hsound hd]
      exact ⟨rfl, hsticky⟩
    case beyond => simp [trimOf_beyond hsound (hrating ▸ hd)]
  case noTrim =>
    obtain ⟨n, e, he, ht⟩ := (trimPresent_iff b).1 h
    exact absurd ht (by simp [htrim n e he])

/-! ### Delivered power (R54) -/

theorem stepSumOf_fullSet (b : Fitted) :
    stepSumOf b (fullSet b) = ((List.finRange 8).map fun n => soundRating b false n).sum := by
  unfold stepSumOf
  congr 1
  refine List.map_congr_left fun n _ => ?_
  rw [fullSet_getElem]
  split
  case isTrue => rfl
  case isFalse h => exact (soundRating_of_unsound_step h).symm

theorem capacityOf_eq (b : Fitted) : capacityOf b = stepSumOf b (fullSet b) + trimRatingOf b := by
  rw [stepSumOf_fullSet]
  exact List.sum_map_add

/-- R52: in FORCED-FULL the whole capacity is delivered. -/
theorem deliveredPower_compose_full {b : Fitted} {s : State} (hfull : s.frg.state = .forcedFull)
    (hrating : s.frg.trimRating = trimRatingOf b) (swapped : Bool) :
    deliveredPower (compose b swapped s).frg = capacityOf b := by
  rw [compose_frg, composedSteps_full hfull, composedTrim_full hfull, capacityOf_eq]
  unfold deliveredPower
  by_cases h : trimSound b = true
  · simp [h, hrating]
  · simp [h, trimRatingOf_of_unsound h]

theorem stepSumOf_rebuildSet_zero (b : Fitted) : stepSumOf b (rebuildSet b 0) = 0 := by
  refine List.sum_eq_zero fun x hx => ?_
  obtain ⟨n, -, rfl⟩ := List.mem_map.1 hx
  split
  case isTrue h => exact Nat.eq_zero_of_le_zero (Nat.le_of_add_left_le ((rebuildSet_iff b 0 n).1 h).2)
  case isFalse => rfl

/-- With no demand, a composition outside FORCED-FULL delivers nothing: a set that is held sums to no more than the
demand, and a rebuilt one has no step with a rating. -/
theorem deliveredPower_compose_zero {b : Fitted} {s : State} (hstate : s.frg.state ≠ .forcedFull)
    (hdemand : s.frg.demand = 0) (swapped : Bool) : deliveredPower (compose b swapped s).frg = 0 := by
  have hsum : stepSumOf b (composedSteps b swapped s.frg) = 0 := by
    rw [composedSteps_demand hstate, hdemand]
    split
    case isTrue h => exact Nat.eq_zero_of_le_zero ((holdsSet_iff b swapped 0 s.frg.steps).1 h).1
    case isFalse => exact stepSumOf_rebuildSet_zero b
  rw [compose_frg, composedTrim_demand hstate, hdemand, Nat.zero_sub, trimOf_zero]
  simp [deliveredPower, hsum]

/-! ### Composition at a mode notice -/

/-- The state that `recompose` hands to the composition: after the reads, with capacity and trim rating recorded and the
demand set from the capacity. -/
def recomposeInput (state : RegState) (demandOf : Nat → Nat) (s : State) : State :=
  let b := fittedOf (fun n => s.frg.faults[n]) s
  updFrg (fun f => { f with
      state := state, demand := demandOf (capacityOf b), remainder := 0, lastError := none
      capacity := capacityOf b, trimRating := trimRatingOf b })
    (readBallast s).2.2

theorem recompose_eq (state : RegState) (demandOf : Nat → Nat) (s : State) :
    recompose state demandOf s =
      compose (fittedOf (fun n => s.frg.faults[n]) s) (table .ballast s).pending (recomposeInput state demandOf s) := by
  rw [← readBallast_fitted, ← readBallast_swapped]
  unfold recompose recomposeInput
  rw [← readBallast_fitted]
  generalize readBallast s = r
  obtain ⟨b, swapped, u⟩ := r
  rfl

theorem recomposeInput_issued (state : RegState) (demandOf : Nat → Nat) (s : State) :
    (recomposeInput state demandOf s).issued = (readBallast s).2.2.issued := by
  unfold recomposeInput
  rw [updFrg_issued]

theorem recomposeInput_frg (state : RegState) (demandOf : Nat → Nat) (s : State) :
    (recomposeInput state demandOf s).frg = { s.frg with
      state := state, demand := demandOf (capacityOf (fittedOf (fun n => s.frg.faults[n]) s))
      remainder := 0, lastError := none
      capacity := capacityOf (fittedOf (fun n => s.frg.faults[n]) s)
      trimRating := trimRatingOf (fittedOf (fun n => s.frg.faults[n]) s) } := by
  have hframe := (readBallast_storeOnly s).1
  unfold recomposeInput
  rw [updFrg_frg, hframe]

theorem recompose_frg (state : RegState) (demandOf : Nat → Nat) (s : State) :
    let t := recompose state demandOf s
    t.frg = { s.frg with
      state := state, demand := demandOf t.frg.capacity, remainder := 0, lastError := none
      capacity := t.frg.capacity, trimRating := t.frg.trimRating, steps := t.frg.steps, stepSum := t.frg.stepSum
      trimShare := t.frg.trimShare, shortfallSticky := t.frg.shortfallSticky } := by
  simp only [recompose_eq, compose_frg, recomposeInput_frg]

theorem recompose_frgAlone (state : RegState) (demandOf : Nat → Nat) (s : State) :
    FrgAlone s (recompose state demandOf s) := by
  have hframe := (readBallast_storeOnly s).1
  have halike := readBallast_entriesReadAlike s
  rw [recompose_eq, compose_eq]
  unfold recomposeInput updFrg
  generalize (readBallast s).2.2 = u at *
  refine ⟨?_, fun _ => halike⟩
  dsimp only
  rw [hframe]

/-- A notice issues nothing but latch notices: of the reads and of a shortfall. -/
theorem recompose_issues (state : RegState) (demandOf : Nat → Nat) (s : State) :
    IssuesOn s.issued (recompose state demandOf s).issued [] := by
  obtain ⟨-, notices, hstore, hissued⟩ := readBallast_storeOnly s
  rw [recompose_eq, compose_eq]
  dsimp only
  rw [recomposeInput_issued, hissued, List.append_assoc]
  refine ⟨notices ++ _, fun e he => ?_, by rw [List.append_nil]⟩
  rcases List.mem_append.1 he with he | he
  · obtain rfl | rfl := hstore e he
    · rfl
    · rfl
  · split at he
    · rw [List.mem_singleton.1 he]; rfl
    · exact absurd he List.not_mem_nil

theorem recompose_composed (state : RegState) (demandOf : Nat → Nat) (s : State) :
    Composed (fun n => s.frg.faults[n]) s (recompose state demandOf s) := by
  rw [recompose_eq]
  apply compose_composed
  all_goals rw [recomposeInput_frg]

theorem deliveredPower_recompose_full (demandOf : Nat → Nat) (s : State) :
    deliveredPower (recompose .forcedFull demandOf s).frg = (recompose .forcedFull demandOf s).frg.capacity := by
  rw [recompose_eq, deliveredPower_compose_full (by rw [recomposeInput_frg]) (by rw [recomposeInput_frg]), compose_frg,
    recomposeInput_frg]

theorem deliveredPower_recompose_frozen (s : State) :
    deliveredPower (recompose .frozen (fun _ => 0) s).frg = 0 := by
  rw [recompose_eq, deliveredPower_compose_zero (by simp [recomposeInput_frg]) (by rw [recomposeInput_frg])]

/-! ### Mode notices (R40) -/

theorem exec_frgModeNotice (old new : PlantMode) {s : State} (h : s.mainPresent = true) :
    exec (.frgModeNotice old new) s = .next (frgModeNotice old new (take (.frgModeNotice old new) s)) :=
  congrArg _ (powered_true s _ h)

/-- FRG has recorded a plant mode. -/
def modeRecorded (mode : PlantMode) (s : State) : State := updFrg (fun f => { f with mode := mode }) s

theorem frgModeNotice_tripped (old : PlantMode) (s : State) :
    frgModeNotice old .tripped s = recompose .forcedFull id (modeRecorded .tripped s) := by
  unfold frgModeNotice
  rw [if_pos rfl]
  rfl

theorem frgModeNotice_commission (old : PlantMode) (s : State) :
    frgModeNotice old .commission s = recompose .frozen (fun _ => 0) (modeRecorded .commission s) := by
  unfold frgModeNotice
  rw [if_neg (by decide), if_pos rfl]
  rfl

theorem frgModeNotice_leaving {old new : PlantMode} (ht : new ≠ .tripped) (hc : new ≠ .commission)
    (hold : old = .tripped ∨ old = .commission) (s : State) :
    frgModeNotice old new s = updFrg (fun f => { f with mode := new, state := .hold }) s := by
  simp only [frgModeNotice, if_neg ht, if_neg hc, if_pos hold]
  rfl

theorem frgModeNotice_other {old new : PlantMode} (ht : new ≠ .tripped) (hc : new ≠ .commission)
    (ht' : old ≠ .tripped) (hc' : old ≠ .commission) (s : State) :
    frgModeNotice old new s = modeRecorded new s := by
  simp only [frgModeNotice, if_neg ht, if_neg hc, if_neg (not_or.2 ⟨ht', hc'⟩)]
  rfl

/-- The four rows of R40's table: a notice composes anew, holds, or is only recorded. -/
theorem frgModeNotice_cases (old new : PlantMode) (s : State) :
    (∃ state demandOf, frgModeNotice old new s = recompose state demandOf (modeRecorded new s)) ∨
    frgModeNotice old new s = updFrg (fun f => { f with mode := new, state := .hold }) s ∨
    frgModeNotice old new s = modeRecorded new s := by
  by_cases ht : new = .tripped
  · subst ht; exact .inl ⟨_, _, frgModeNotice_tripped old s⟩
  by_cases hc : new = .commission
  · subst hc; exact .inl ⟨_, _, frgModeNotice_commission old s⟩
  by_cases hold : old = .tripped ∨ old = .commission
  · exact .inr (.inl (frgModeNotice_leaving ht hc hold s))
  · obtain ⟨ht', hc'⟩ := not_or.1 hold
    exact .inr (.inr (frgModeNotice_other ht hc ht' hc' s))

theorem updFrg_frgAlone (f : Frg → Frg) (s : State) : FrgAlone s (updFrg f s) :=
  ⟨rfl, fun _ => EntriesReadAlike.refl s⟩

theorem frgModeNotice_frgAlone (old new : PlantMode) (s : State) : FrgAlone s (frgModeNotice old new s) := by
  obtain ⟨state, demandOf, h⟩ | h | h := frgModeNotice_cases old new s
  · rw [h]; exact recompose_frgAlone state demandOf (modeRecorded new s)
  · rw [h]; exact updFrg_frgAlone _ s
  · rw [h]; exact updFrg_frgAlone _ s

theorem frgModeNotice_mode (old new : PlantMode) (s : State) : (frgModeNotice old new s).frg.mode = new := by
  obtain ⟨state, demandOf, h⟩ | h | h := frgModeNotice_cases old new s
  · rw [h, recompose_frg]; rfl
  · rw [h]; rfl
  · rw [h]; rfl

theorem IssuesOn.refl (l : List Instr) : IssuesOn l l [] := ⟨[], by simp, by simp⟩

theorem frgModeNotice_issues (old new : PlantMode) (s : State) :
    IssuesOn s.issued (frgModeNotice old new s).issued [] := by
  obtain ⟨state, demandOf, h⟩ | h | h := frgModeNotice_cases old new s
  · rw [h]; exact recompose_issues state demandOf (modeRecorded new s)
  · rw [h]; exact IssuesOn.refl _
  · rw [h]; exact IssuesOn.refl _

theorem frgModeNotice_frame (old new : PlantMode) (s : State) :
    let t := frgModeNotice old new s
    t.frg = { s.frg with
      mode := t.frg.mode, state := t.frg.state, demand := t.frg.demand, remainder := t.frg.remainder
      lastError := t.frg.lastError, capacity := t.frg.capacity, trimRating := t.frg.trimRating
      steps := t.frg.steps, stepSum := t.frg.stepSum, trimShare := t.frg.trimShare
      shortfallSticky := t.frg.shortfallSticky } := by
  dsimp only
  obtain ⟨state, demandOf, h⟩ | h | h := frgModeNotice_cases old new s
  · have hfrg := recompose_frg state demandOf (modeRecorded new s)
    rw [h]
    generalize recompose state demandOf (modeRecorded new s) = t at hfrg ⊢
    rw [hfrg]
    rfl
  · rw [h]; rfl
  · rw [h]; rfl

/-- Settles O23, by the four rows of R40's table: entry to TRIPPED or COMMISSION composes anew, after FORCED-FULL or for
no demand; the other two rows change FRG's record alone. -/
theorem modeNoticeSetsTheBallast : Obligations.ModeNoticeSetsTheBallast := by
  intro old new s hmain
  let u := take (.frgModeNotice old new) s
  refine ⟨frgModeNotice old new u, exec_frgModeNotice old new hmain, frgModeNotice_frgAlone old new u,
    frgModeNotice_mode old new u, frgModeNotice_issues old new u, frgModeNotice_frame old new u, fun ht => ?tripped,
    fun hc => ?commission, fun hentry _ => ?composed, fun ht hc hold => ?leaving, fun ht hc ht' hc' => ?other⟩
  case tripped =>
    subst ht
    have hfrg := recompose_frg .forcedFull id (modeRecorded .tripped u)
    rw [frgModeNotice_tripped]
    exact ⟨by rw [hfrg], by rw [hfrg]; rfl, by rw [hfrg], by rw [hfrg], deliveredPower_recompose_full id _⟩
  case commission =>
    subst hc
    have hfrg := recompose_frg .frozen (fun _ => 0) (modeRecorded .commission u)
    rw [frgModeNotice_commission]
    exact ⟨by rw [hfrg], by rw [hfrg], by rw [hfrg], by rw [hfrg], deliveredPower_recompose_frozen _⟩
  case composed =>
    obtain rfl | rfl := hentry
    · rw [frgModeNotice_tripped]
      exact recompose_composed .forcedFull id (modeRecorded .tripped u)
    · rw [frgModeNotice_commission]
      exact recompose_composed .frozen (fun _ => 0) (modeRecorded .commission u)
  case leaving =>
    rw [frgModeNotice_leaving ht hc hold]
    exact ⟨rfl, rfl, rfl, (List.append_nil _).symm⟩
  case other =>
    rw [frgModeNotice_other ht hc ht' hc']
    exact ⟨rfl, rfl, rfl, (List.append_nil _).symm⟩

end Sys2Proof.Machine
end

section
/-! PROOFS. Supply Balance: what a sample set writes into the voltage view (spec/05, R84). -/

namespace Sys2Proof.Machine

/-! ### The view of a quantity in a set -/

theorem setView_value (set : SampleSet) (kind : SampleKind) (inst : Nat) :
    (setView set kind inst).value = (setRecord set kind inst).bind (·.value) := by
  unfold setView
  cases setRecord set kind inst with
  | none => rfl
  | some r => rfl

theorem setView_state (set : SampleSet) (kind : SampleKind) (inst : Nat) :
    (setView set kind inst).state = ((setRecord set kind inst).map recordState).getD .never := by
  unfold setView
  cases setRecord set kind inst with
  | none => rfl
  | some r => rfl

/-! ### The voltage view -/

theorem exec_sbuSampleSet (set : SampleSet) {s : State} (h : s.mainPresent = true) :
    exec (.sbuSampleSet set) s = .next (sbuSampleSet set (take (.sbuSampleSet set) s)) :=
  congrArg _ (powered_true s _ h)

/-- R84: the voltage view is all that SBU writes at a set, in every plant mode. -/
theorem sbuSampleSet_eq (set : SampleSet) (s : State) :
    sbuSampleSet set s = { s with
      sbu := { s.sbu with
        voltage := (setRecord set .lineVoltage 0).bind (·.value)
        voltageSt := ((setRecord set .lineVoltage 0).map recordState).getD .never } } := by
  rw [← setView_value, ← setView_state]
  rfl

theorem flightAfter_nil (c : Instr) (s : State) : flightAfter c s [] = (take c s).issued :=
  List.append_nil _

/-- Settles O37: with the main supply present SBU handles the set after its event is taken; the handling writes the
voltage view alone, and the taking has removed the event alone. -/
theorem voltageViewFollowsTheSet : Obligations.VoltageViewFollowsTheSet := by
  intro set s hmain
  rw [exec_sbuSampleSet set hmain, sbuSampleSet_eq, flightAfter_nil]
  rfl

end Sys2Proof.Machine
end

section
/-! PROOFS. Saw Drive: what its entries to STOPPED and RUNDOWN do, and the requests STOP and CLEAR (spec/06, R108, R116,
R117, R119). -/

namespace Sys2Proof.Machine

/-! ### A holder's record leaves the claim list (R87) -/

theorem claimOf_eq_none_iff (h : Holder) (s : State) : claimOf h s = none ↔ NoClaim h s := by
  simp [claimOf, NoClaim]

/-- R87: the records that are kept change their ranks alone. -/
theorem dropClaim_unranked (h : Holder) (order : Nat) (l : List Claim) :
    (dropClaim h order l).map (fun c => { c with order := 0 }) =
      (l.filter fun c => c.holder ≠ h).map fun c => { c with order := 0 } := by
  unfold dropClaim
  rw [List.map_map]
  congr 1
  · funext c
    dsimp only [Function.comp]
    split <;> rfl
  · simp

theorem removeClaim_none {h : Holder} {s : State} (hnone : claimOf h s = none) : removeClaim h s = s := by
  simp only [removeClaim, hnone]

theorem removeClaim_some {h : Holder} {s : State} {c : Claim} (hsome : claimOf h s = some c) :
    removeClaim h s = updSbu (fun b => { b with
      granted := dropClaim h c.order b.granted, queue := dropClaim h c.order b.queue }) s := by
  simp only [removeClaim, hsome]

theorem removeClaim_noClaim (h : Holder) (s : State) : NoClaim h (removeClaim h s) := by
  intro c hc hholder
  have hmem := List.mem_map_of_mem (f := Claim.holder) hc
  rw [removeClaim_holders] at hmem
  simp [hholder] at hmem

theorem removeClaim_claimLeaves (h : Holder) (s : State) : ClaimLeaves h s (removeClaim h s) := by
  refine ⟨removeClaim_noClaim h s, ?_⟩
  cases hfound : claimOf h s with
  | none =>
    have hno := (claimOf_eq_none_iff h s).1 hfound
    rw [removeClaim_none hfound]
    constructor
    · rw [List.filter_eq_self.2 fun c hc => decide_eq_true (hno c (List.mem_append_left _ hc))]
    · rw [List.filter_eq_self.2 fun c hc => decide_eq_true (hno c (List.mem_append_right _ hc))]
  | some c =>
    rw [removeClaim_some hfound]
    exact ⟨dropClaim_unranked h c.order _, dropClaim_unranked h c.order _⟩

/-- Whether a record has left is a matter of SBU's record alone. -/
theorem claimLeaves_of_sbu {h : Holder} {s t : State} (ht : t.sbu = (removeClaim h s).sbu) : ClaimLeaves h s t := by
  have hleaves := removeClaim_claimLeaves h s
  unfold ClaimLeaves NoClaim claims at hleaves ⊢
  rwa [ht]

theorem removeClaim_sbu (h : Holder) (s : State) :
    (removeClaim h s).sbu =
      { s.sbu with granted := (removeClaim h s).sbu.granted, queue := (removeClaim h s).sbu.queue } := by
  unfold removeClaim
  split <;> rfl

/-! ### What the saw may change -/

/-- Only what is the saw's to change has changed, and every entry reads as before, whatever form the tables have. -/
def SawOnly (s t : State) : Prop := SduAlone s t ∧ EntriesReadAlike s t

theorem SawOnly.sduAlone {s t : State} (h : SawOnly s t) : SduAlone s t := h.1

theorem SawOnly.trans {s t u : State} (h : SawOnly s t) (k : SawOnly t u) : SawOnly s u := by
  obtain ⟨⟨hframe, -⟩, hreads⟩ := h
  obtain ⟨⟨kframe, -⟩, kreads⟩ := k
  have hall := hreads.trans kreads
  refine ⟨⟨?_, fun _ => hall⟩, hall⟩
  rw [kframe, hframe]

theorem take_sawOnly (e : Instr) (s : State) : SawOnly s (take e s) :=
  ⟨⟨rfl, fun _ => EntriesReadAlike.refl s⟩, EntriesReadAlike.refl s⟩

theorem answer_sawOnly (r : Status) (w : List Word) (s : State) : SawOnly s (answer r w s) :=
  ⟨⟨rfl, fun _ => EntriesReadAlike.refl s⟩, EntriesReadAlike.refl s⟩

theorem updSdu_sawOnly (f : Sdu → Sdu) (s : State) : SawOnly s (updSdu f s) :=
  ⟨⟨rfl, fun _ => EntriesReadAlike.refl s⟩, EntriesReadAlike.refl s⟩

theorem StoreOnly.sawOnly {s t : State} (h : StoreOnly s t) (hreads : EntriesReadAlike s t) : SawOnly s t := by
  refine ⟨⟨?_, fun _ => hreads⟩, hreads⟩
  obtain ⟨hframe, -⟩ := h
  rw [hframe]

theorem StoreOnly.issuesOn {s t : State} (h : StoreOnly s t) : IssuesOn s.issued t.issued [] := by
  obtain ⟨-, notices, hstore, hissued⟩ := h
  refine ⟨notices, fun e he => ?_, by rw [hissued, List.append_nil]⟩
  obtain rfl | rfl := hstore e he
  · rfl
  · rfl

theorem IssuesOn.append {before after : List Instr} (h : IssuesOn before after []) (new : List Instr) :
    IssuesOn before (after ++ new) new := by
  obtain ⟨notices, hlatch, rfl⟩ := h
  exact ⟨notices, hlatch, by simp⟩

/-! ### A report of the saw -/

theorem reportSaw_frame (s : State) : reportSaw s = { s with sbu := (reportSaw s).sbu } := removeClaim_frame .saw s

theorem reportSaw_issued (s : State) : (reportSaw s).issued = s.issued := by rw [reportSaw_frame]

theorem reportSaw_sawOnly (s : State) : SawOnly s (reportSaw s) := by
  have hreads : EntriesReadAlike s (reportSaw s) := by
    rw [reportSaw_frame]
    exact EntriesReadAlike.refl s
  refine ⟨⟨?_, fun _ => hreads⟩, hreads⟩
  rw [reportSaw_frame]
  dsimp only
  rw [show (reportSaw s).sbu = _ from removeClaim_sbu .saw s]

/-- What an entry to STOPPED does is said of SDU's record and the tables, and a report leaves both. -/
theorem stops_reportSaw_iff (reason : SawReason) (s t : State) : Stops reason (reportSaw s) t ↔ Stops reason s t := by
  rw [reportSaw_frame]
  rfl

theorem runsDown_reportSaw_iff (reason : SawReason) (s t : State) :
    RunsDown reason (reportSaw s) t ↔ RunsDown reason s t := by
  rw [reportSaw_frame]
  rfl

/-! ### The entry to STOPPED (R108) -/

theorem takePending_pending (t : TableId) (s : State) : (table t (takePending t s)).pending = false := by
  unfold takePending
  split
  · simp [takeSwap, setTable_table]
  · simp_all

theorem recordSawRead_frame (r : ReadResult) (s : State) :
    recordSawRead r s = { s with sdu := { s.sdu with
      values := (recordSawRead r s).sdu.values, entryState := (recordSawRead r s).sdu.entryState } } := by
  cases r <;> rfl

/-- R108: with no swap pending nothing is read; with one pending it is taken, and SDU records what the entry that comes into
force reads. -/
theorem takeSawSwap_cases (s : State) :
    ((table .saw s).pending = false ∧ takeSawSwap s = s) ∨
    ((table .saw s).pending = true ∧ ∃ u, StoreOnly s u ∧ EntriesReadAlike s u ∧ (table .saw u).pending = false ∧
      takeSawSwap s = recordSawRead (ownerReads .saw 1 s) u) := by
  cases hpending : (table .saw s).pending with
  | false => exact .inl ⟨rfl, by simp [takeSawSwap, hpending]⟩
  | true =>
    have htake : takePending .saw s = takeSwap .saw s := by simp [takePending, hpending]
    refine .inr ⟨rfl, (readActive .saw 1 (takePending .saw s)).2,
      (takePending_storeOnly .saw s).trans (readActive_storeOnly .saw 1 _),
      (takePending_entriesReadAlike .saw s).trans fun u c j => readBank_keeps .saw u _ c 1 j _, ?_, ?_⟩
    · obtain ⟨-, hmark, -⟩ := readActive_sameSwaps .saw 1 (takePending .saw s) .saw
      rw [hmark, takePending_pending]
    · rw [← ownerReads_result, htake]
      simp [takeSawSwap, hpending]

theorem takeSawSwap_sawOnly (s : State) : SawOnly s (takeSawSwap s) := by
  obtain ⟨-, h⟩ | ⟨-, u, hstore, hreads, -, h⟩ := takeSawSwap_cases s
  · rw [h]
    exact updSdu_sawOnly id s
  · rw [h, recordSawRead_frame]
    exact (hstore.sawOnly hreads).trans (updSdu_sawOnly (fun _ => _) u)

theorem takeSawSwap_issues (s : State) : IssuesOn s.issued (takeSawSwap s).issued [] := by
  obtain ⟨-, h⟩ | ⟨-, u, hstore, -, -, h⟩ := takeSawSwap_cases s
  · rw [h]
    exact IssuesOn.refl _
  · rw [h, recordSawRead_frame]
    exact hstore.issuesOn

theorem takeSawSwap_sbu (s : State) : (takeSawSwap s).sbu = s.sbu := by
  obtain ⟨-, h⟩ | ⟨-, u, ⟨hframe, -⟩, -, -, h⟩ := takeSawSwap_cases s
  · rw [h]
  · rw [h, recordSawRead_frame, hframe]

theorem takeSawSwap_sdu (s : State) :
    (takeSawSwap s).sdu = { s.sdu with
      values := (takeSawSwap s).sdu.values, entryState := (takeSawSwap s).sdu.entryState } := by
  obtain ⟨-, h⟩ | ⟨-, u, ⟨hframe, -⟩, -, -, h⟩ := takeSawSwap_cases s
  · rw [h]
  · have hsdu : u.sdu = s.sdu := by rw [hframe]
    rw [h, recordSawRead_frame, hsdu]

theorem takeSawSwap_pending (s : State) : (table .saw (takeSawSwap s)).pending = false := by
  obtain ⟨hpending, h⟩ | ⟨-, u, -, -, hpending, h⟩ := takeSawSwap_cases s
  · rwa [h]
  · rw [h, recordSawRead_frame]
    exact hpending

theorem takeSawSwap_of_not_pending {s : State} (h : (table .saw s).pending = false) : takeSawSwap s = s := by
  obtain ⟨-, hstands⟩ | ⟨hpending, -⟩ := takeSawSwap_cases s
  · exact hstands
  · simp [h] at hpending

theorem takeSawSwap_values {s : State} {img : Image} (h : (table .saw s).pending = true)
    (hgood : ownerReads .saw 1 s = .good img) : (takeSawSwap s).sdu.values = some (sawEntry img) := by
  obtain ⟨hpending, -⟩ | ⟨-, u, -, -, -, hread⟩ := takeSawSwap_cases s
  · simp [h] at hpending
  · rw [hread, hgood]
    rfl

theorem sawStopped_stops (reason : SawReason) (s : State) : Stops reason s (sawStopped reason s) := by
  refine ⟨takeSawSwap_sdu _, takeSawSwap_pending _, fun h => ?_, fun _ h hgood => takeSawSwap_values h hgood⟩
  rw [sawStopped, takeSawSwap_of_not_pending (s := updSdu _ s) h]
  exact ⟨rfl, rfl⟩

theorem sawStopped_sawOnly (reason : SawReason) (s : State) : SawOnly s (sawStopped reason s) :=
  (updSdu_sawOnly _ s).trans (takeSawSwap_sawOnly _)

theorem sawStopped_issues (reason : SawReason) (s : State) : IssuesOn s.issued (sawStopped reason s).issued [] :=
  takeSawSwap_issues _

theorem sawStopped_sbu (reason : SawReason) (s : State) : (sawStopped reason s).sbu = s.sbu := takeSawSwap_sbu _

/-! ### The entry to RUNDOWN (R117) -/

/-- A write of the contactor command is SDU's record and its holding entry, and is none where the command stands. -/
theorem writeContactor_eq (c : Contactor) (s : State) :
    writeContactor c s = { s with
      sdu := withContactor c s.now s.sdu
      rif := { s.rif with holding := { s.rif.holding with
        sawContactor := if s.sdu.contactor = c then s.rif.holding.sawContactor else contactorValue c } } } := by
  unfold writeContactor withContactor
  split
  · rfl
  · rfl

theorem sawRundown_eq (reason : SawReason) (s : State) :
    sawRundown reason s = { s with
      sdu := { withContactor .off s.now s.sdu with
        state := .rundown, reason := reason, starTimer := .stopped, deltaTimer := .stopped, stallTimer := .stopped
        ringCheck := false, feed := 0
        rundownTimer := .running (s.now + ((s.sdu.values.map (·.rundownTime)).getD 0) * 1000 * 1000) }
      rif := { s.rif with holding := { s.rif.holding with
        sawContactor := if s.sdu.contactor = .off then s.rif.holding.sawContactor else some 0
        feed := some 0 } } } := by
  unfold sawRundown commandOff
  dsimp only
  rw [writeContactor_eq]
  unfold withContactor
  by_cases hoff : s.sdu.contactor = .off
  · simp only [updSdu_sdu, hoff, if_true]
    rfl
  · simp only [updSdu_sdu, hoff, if_false]
    rfl

theorem sawRundown_runsDown (reason : SawReason) (s : State) : RunsDown reason s (sawRundown reason s) := by
  rw [sawRundown_eq]
  exact ⟨rfl, rfl, fun hon => if_neg hon⟩

theorem sawRundown_sawOnly (reason : SawReason) (s : State) : SawOnly s (sawRundown reason s) := by
  rw [sawRundown_eq]
  exact ⟨⟨rfl, fun _ => EntriesReadAlike.refl s⟩, EntriesReadAlike.refl s⟩

theorem sawRundown_sbu (reason : SawReason) (s : State) : (sawRundown reason s).sbu = s.sbu := by rw [sawRundown_eq]

theorem sawRundown_issued (reason : SawReason) (s : State) : (sawRundown reason s).issued = s.issued := by
  rw [sawRundown_eq]

/-! ### STOP and CLEAR (R116, R119) -/

theorem sawStop_queued {s : State} (h : s.sdu.state = .queued) : sawStop s = sawStopped .stop (reportSaw s) := by
  simp only [sawStop, h]

theorem sawStop_starting {s : State} (h : s.sdu.state = .star ∨ s.sdu.state = .delta) :
    sawStop s = sawRundown .stop (reportSaw s) := by
  obtain h | h := h <;> simp only [sawStop, h]

theorem sawStop_run {s : State} (h : s.sdu.state = .run) : sawStop s = sawRundown .stop s := by
  simp only [sawStop, h]

theorem sawStop_off {s : State} (h : s.sdu.state = .stopped ∨ s.sdu.state = .rundown ∨ s.sdu.state = .fault) :
    sawStop s = s := by
  obtain h | h | h := h <;> simp only [sawStop, h]

theorem sawClear_closed {s : State} (h : s.sdu.state = .fault) (hclosed : s.sdu.permissive = .closed) :
    sawClear s = (.done, sawStopped s.sdu.reason s) := by
  simp [sawClear, h, hclosed]

theorem sawClear_opened {s : State} (h : s.sdu.state = .fault) (hopened : s.sdu.permissive = .opened) :
    sawClear s = (.busy, s) := by
  simp [sawClear, h, hopened]

theorem sawClear_other {s : State} (h : s.sdu.state ≠ .fault) : sawClear s = (.done, s) := by
  simp [sawClear, h]

theorem exec_sawStop {s : State} (h : s.mainPresent = true) :
    exec .sawStop s = .next (answer .done [] (sawStop (take .sawStop s))) :=
  congrArg _ (powered_true s _ h)

theorem exec_sawClear {s : State} (h : s.mainPresent = true) :
    exec .sawClear s =
      .next (answer (sawClear (take .sawClear s)).1 [] (sawClear (take .sawClear s)).2) :=
  congrArg _ (powered_true s _ h)

/-- Settles O41, by the branches of STOP and of CLEAR: STOP from QUEUED and CLEAR from FAULT are the entry to STOPPED, STOP
from STAR, DELTA and RUN is the entry to RUNDOWN, and every other request is answered alone. A claim leaves by the report
that precedes the entry. -/
theorem sawStopAndClear : Obligations.SawStopAndClear := by
  intro s hmain
  have hstop := exec_sawStop hmain
  have hclear := exec_sawClear hmain
  let u := take .sawStop s
  let v := take .sawClear s
  refine ⟨fun hqueued => ?waiting, fun hon => ?on, fun hoff => ?off, fun hfault hclosed => ?cleared,
    fun hfault hopened => ?notCleared, fun hfault => ?noFault⟩
  case waiting =>
    rw [RunsTo, hstop, sawStop_queued (s := u) hqueued]
    refine ⟨_, rfl, SawOnly.sduAlone ?_, ?_, ?_, ?_⟩
    · exact (((take_sawOnly _ s).trans (reportSaw_sawOnly u)).trans (sawStopped_sawOnly _ _)).trans (answer_sawOnly _ _ _)
    · exact (stops_reportSaw_iff .stop u _).1 (sawStopped_stops .stop (reportSaw u))
    · exact claimLeaves_of_sbu (h := .saw) (s := u) (sawStopped_sbu .stop (reportSaw u))
    · have hissues := sawStopped_issues .stop (reportSaw u)
      rw [reportSaw_issued] at hissues
      exact hissues.append _
  case on =>
    rw [RunsTo, hstop]
    refine ⟨_, rfl, ?_⟩
    obtain hstarting | hrun : (s.sdu.state = .star ∨ s.sdu.state = .delta) ∨ s.sdu.state = .run := or_assoc.2 hon
    · rw [sawStop_starting (s := u) hstarting]
      refine ⟨SawOnly.sduAlone ?_, ?_, fun _ => ?_, ?_⟩
      · exact (((take_sawOnly _ s).trans (reportSaw_sawOnly u)).trans (sawRundown_sawOnly _ _)).trans
          (answer_sawOnly _ _ _)
      · exact (runsDown_reportSaw_iff .stop u _).1 (sawRundown_runsDown .stop (reportSaw u))
      · exact claimLeaves_of_sbu (h := .saw) (s := u) (sawRundown_sbu .stop (reportSaw u))
      · rw [answer_issued, sawRundown_issued, reportSaw_issued]
        rfl
    · rw [sawStop_run (s := u) hrun]
      refine ⟨SawOnly.sduAlone ?_, sawRundown_runsDown .stop u, fun hnot => absurd hrun hnot, ?_⟩
      · exact ((take_sawOnly _ s).trans (sawRundown_sawOnly _ u)).trans (answer_sawOnly _ _ _)
      · rw [answer_issued, sawRundown_issued]
        rfl
  case off =>
    rw [hstop, sawStop_off (s := u) hoff]
    rfl
  case cleared =>
    rw [RunsTo, hclear, sawClear_closed (s := v) hfault hclosed]
    refine ⟨_, rfl, SawOnly.sduAlone ?_, sawStopped_stops _ v, (sawStopped_issues _ v).append _⟩
    exact ((take_sawOnly _ s).trans (sawStopped_sawOnly _ v)).trans (answer_sawOnly _ _ _)
  case notCleared =>
    rw [hclear, sawClear_opened (s := v) hfault hopened]
    rfl
  case noFault =>
    rw [hclear, sawClear_other (s := v) hfault]
    rfl

end Sys2Proof.Machine
end

section
/-! PROOFS. Feeder Control: how a FEEDER request is judged, the ways into SHED and to OFF, and WANT-ON, WANT-OFF and CLEAR
(spec/07, R130, R131, R132, R145). -/

namespace Sys2Proof.Machine

/-! ### What FCU may change without an event or a read -/

/-- FCU's records and breaker commands and SBU's lists and restore may have changed, and nothing else: no event has been
issued and no entry read. -/
def FcuQuiet (s t : State) : Prop :=
  t = { s with
    fcu := t.fcu
    sbu := { s.sbu with
      granted := t.sbu.granted, queue := t.sbu.queue, shedList := t.sbu.shedList, restoring := t.sbu.restoring
      restoreGap := t.sbu.restoreGap }
    rif := { s.rif with holding := { s.rif.holding with feederBreaker := t.rif.holding.feederBreaker } } }

theorem FcuQuiet.refl (s : State) : FcuQuiet s s := rfl

theorem FcuQuiet.trans {s t u : State} (h : FcuQuiet s t) (k : FcuQuiet t u) : FcuQuiet s u := by
  unfold FcuQuiet at *
  rw [k, h]

theorem FcuQuiet.issued {s t : State} (h : FcuQuiet s t) : t.issued = s.issued := by rw [h]

/-- An event taken before and an answer issued after leave it to FCU alone. -/
theorem FcuQuiet.fcuAlone {c : Instr} {s t : State} (h : FcuQuiet (take c s) t) (l : List Instr) :
    FcuAlone s { t with issued := l } := by
  rw [h]
  exact ⟨rfl, fun _ => EntriesReadAlike.refl s⟩

theorem setFeeder_quiet (n : Feeder) (r : FeederRecord) (s : State) : FcuQuiet s (setFeeder n r s) := rfl

theorem putFeeder_quiet (n : Feeder) (r : FeederRecord) (s : State) : FcuQuiet s (putFeeder n r s) := rfl

/-! ### One feeder's record and breaker command (R130) -/

@[simp] theorem setFeeder_feeder_same (n : Feeder) (r : FeederRecord) (s : State) : feeder n (setFeeder n r s) = r :=
  (setFeeder_feeder n n r s).trans (if_pos rfl)

@[simp] theorem putFeeder_feeder_same (n : Feeder) (r : FeederRecord) (s : State) : feeder n (putFeeder n r s) = r :=
  setFeeder_feeder_same n r s

/-- The other feeders' records and breaker commands and the over-voltage count stand. -/
def OtherFeedersStand (n : Feeder) (s t : State) : Prop :=
  (∀ m, m ≠ n → feeder m t = feeder m s) ∧ t.fcu.overVoltage = s.fcu.overVoltage ∧
  ∀ m : Feeder, m ≠ n → t.rif.holding.feederBreaker[m] = s.rif.holding.feederBreaker[m]

theorem setFeeder_othersStand (n : Feeder) (r : FeederRecord) (s : State) : OtherFeedersStand n s (setFeeder n r s) :=
  ⟨fun m hm => (setFeeder_feeder n m r s).trans (if_neg hm), rfl, fun _ _ => rfl⟩

theorem putFeeder_othersStand (n : Feeder) (r : FeederRecord) (s : State) : OtherFeedersStand n s (putFeeder n r s) :=
  ⟨fun m hm => (putFeeder_feeder n m r s).trans (if_neg hm), rfl,
    fun m hm => (putFeeder_breaker n m r s).trans (if_neg hm)⟩

theorem putFeeder_becomes (n : Feeder) (r : FeederRecord) (s : State) : FeederBecomes n r s (putFeeder n r s) := by
  obtain ⟨hrecords, hcount, hbreakers⟩ := putFeeder_othersStand n r s
  exact ⟨putFeeder_feeder_same n r s, hrecords, hcount, (putFeeder_breaker n n r s).trans (if_pos rfl), hbreakers⟩

/-- What one feeder becomes does not depend on an earlier change of that feeder. -/
theorem FeederBecomes.after {n : Feeder} {r : FeederRecord} {s u t : State} (hothers : OtherFeedersStand n s u)
    (h : FeederBecomes n r u t) : FeederBecomes n r s t := by
  obtain ⟨hrecords, hcount, hbreakers⟩ := hothers
  obtain ⟨hrecord, krecords, kcount, hbreaker, kbreakers⟩ := h
  exact ⟨hrecord, fun m hm => (krecords m hm).trans (hrecords m hm), kcount.trans hcount, hbreaker,
    fun m hm => (kbreakers m hm).trans (hbreakers m hm)⟩

/-! ### Becoming SHED (R94, R136) -/

theorem insertEntry_splits (e : ShedEntry) (l : List ShedEntry) :
    ∃ front back, l = front ++ back ∧ insertEntry e l = front ++ e :: back := by
  induction l with
  | nil => exact ⟨[], [], rfl, rfl⟩
  | cons d rest ih =>
    unfold insertEntry
    split
    · exact ⟨[], d :: rest, rfl, rfl⟩
    · obtain ⟨front, back, hrest, hinsert⟩ := ih
      exact ⟨d :: front, back, congrArg (d :: ·) hrest, congrArg (d :: ·) hinsert⟩

/-- R94: the entry that joins has the feeder's class in force, and the others keep their places and ranks. -/
theorem joinShed_joins (n : Feeder) (reason : ShedReason) (s : State) :
    JoinsShed n (feeder n s).cls reason s (joinShed n reason s) := by
  obtain ⟨front, back, hlist, hinsert⟩ := insertEntry_splits
    { feeder := n, cls := (feeder n s).cls, reason := reason, order := s.sbu.shedList.length + 1 } s.sbu.shedList
  exact ⟨front, back, _, hlist, hinsert, rfl, rfl, rfl⟩

theorem shedFeeder_eq (n : Feeder) (reason : ShedReason) (s : State) :
    shedFeeder n reason s = joinShed n reason (putFeeder n (parked .shed (feederReasonOf reason) (feeder n s)) s) := rfl

theorem shedFeeder_becomesShed (n : Feeder) (reason : ShedReason) (s : State) :
    BecomesShed n reason (feeder n s) s (shedFeeder n reason s) := by
  rw [shedFeeder_eq]
  refine ⟨putFeeder_becomes n _ s, ?_⟩
  have hjoins := joinShed_joins n reason (putFeeder n (parked .shed (feederReasonOf reason) (feeder n s)) s)
  rw [putFeeder_feeder_same] at hjoins
  exact hjoins

theorem shedFeeder_quiet (n : Feeder) (reason : ShedReason) (s : State) : FcuQuiet s (shedFeeder n reason s) := rfl

theorem BecomesShed.after {n : Feeder} {reason : ShedReason} {r : FeederRecord} {s u t : State}
    (hothers : OtherFeedersStand n s u) (hsbu : u.sbu = s.sbu) (h : BecomesShed n reason r u t) :
    BecomesShed n reason r s t := by
  obtain ⟨hbecomes, hjoins⟩ := h
  refine ⟨hbecomes.after hothers, ?_⟩
  unfold JoinsShed at hjoins ⊢
  rwa [hsbu] at hjoins

/-- The conditions under which a feeder that may be served joins by itself (R129, R131, R132). -/
def MayJoin (n : Feeder) (s : State) : Prop :=
  (feeder n s).state = .off ∧ (feeder n s).desired = true ∧ servable (feeder n s) = true ∧ s.tsu.mode = .run

theorem inRun_iff (s : State) : inRun s = true ↔ s.tsu.mode = .run := decide_eq_true_iff

theorem joinIfWanted_joins {n : Feeder} {s : State} (h : MayJoin n s) : joinIfWanted n s = shedFeeder n .request s := by
  obtain ⟨hoff, hdesired, hserved, hmode⟩ := h
  have hrun := (inRun_iff s).2 hmode
  exact (if_pos ⟨hoff, hdesired, hserved, hrun⟩).trans (if_pos hrun)

theorem joinIfWanted_stays {n : Feeder} {s : State} (h : ¬MayJoin n s) : joinIfWanted n s = s :=
  if_neg fun ⟨hoff, hdesired, hserved, hrun⟩ => h ⟨hoff, hdesired, hserved, (inRun_iff s).1 hrun⟩

/-! ### A report of a feeder under restore (R92, R103) -/

theorem removeClaim_quiet (h : Holder) (s : State) : FcuQuiet s (removeClaim h s) := by
  unfold FcuQuiet
  rw [removeClaim_frame]
  dsimp only
  rw [show (removeClaim h s).sbu = _ from removeClaim_sbu h s]

/-- R103: the end of a restore changes SBU's restore and gap alone, and only where it is that feeder's. -/
theorem endRestore_cases (n : Feeder) (s : State) :
    (s.sbu.restoring = some n ∧ endRestore n s = { s with
      sbu := { s.sbu with
        restoring := none, restoreGap := .running (s.now + s.sbu.balance.restoreGap * 1000 * 1000) } }) ∨
    (s.sbu.restoring ≠ some n ∧ endRestore n s = s) := by
  unfold endRestore
  split
  · rename_i h; exact .inl ⟨h, rfl⟩
  · rename_i h; exact .inr ⟨h, rfl⟩

theorem endRestore_quiet (n : Feeder) (s : State) : FcuQuiet s (endRestore n s) := by
  obtain ⟨-, h⟩ | ⟨-, h⟩ := endRestore_cases n s
  · rw [h]; rfl
  · rw [h]; exact FcuQuiet.refl s

theorem endRestore_lists (n : Feeder) (s : State) :
    (endRestore n s).sbu.granted = s.sbu.granted ∧ (endRestore n s).sbu.queue = s.sbu.queue ∧
    (endRestore n s).sbu.shedList = s.sbu.shedList ∧ (endRestore n s).fcu = s.fcu ∧ (endRestore n s).rif = s.rif := by
  obtain ⟨-, h⟩ | ⟨-, h⟩ := endRestore_cases n s
  · rw [h]; exact ⟨rfl, rfl, rfl, rfl, rfl⟩
  · rw [h]; exact ⟨rfl, rfl, rfl, rfl, rfl⟩

theorem endRestore_ends (n : Feeder) (s : State) : RestoreEnds n s.now s (endRestore n s) := by
  obtain ⟨hmine, h⟩ | ⟨hother, h⟩ := endRestore_cases n s
  · rw [h]; exact ⟨fun _ => ⟨rfl, rfl⟩, fun hother => absurd hmine hother⟩
  · rw [h]; exact ⟨fun hmine => absurd hmine hother, fun _ => ⟨rfl, rfl⟩⟩

theorem reportFeeder_quiet (n : Feeder) (s : State) : FcuQuiet s (reportFeeder n s) :=
  (removeClaim_quiet _ s).trans (endRestore_quiet n _)

theorem reportFeeder_fcu (n : Feeder) (s : State) : (reportFeeder n s).fcu = s.fcu := by
  obtain ⟨-, -, -, hfcu, -⟩ := endRestore_lists n (removeClaim (.feeder n) s)
  rw [reportFeeder, hfcu, removeClaim_frame]

theorem reportFeeder_rif (n : Feeder) (s : State) : (reportFeeder n s).rif = s.rif := by
  obtain ⟨-, -, -, -, hrif⟩ := endRestore_lists n (removeClaim (.feeder n) s)
  rw [reportFeeder, hrif, removeClaim_frame]

theorem reportFeeder_shedList (n : Feeder) (s : State) : (reportFeeder n s).sbu.shedList = s.sbu.shedList := by
  obtain ⟨-, -, hshed, -, -⟩ := endRestore_lists n (removeClaim (.feeder n) s)
  rw [reportFeeder, hshed, removeClaim_sbu]

theorem reportFeeder_claimLeaves (n : Feeder) (s : State) : ClaimLeaves (.feeder n) s (reportFeeder n s) := by
  obtain ⟨hgranted, hqueue, -⟩ := endRestore_lists n (removeClaim (.feeder n) s)
  have hleaves := removeClaim_claimLeaves (.feeder n) s
  unfold ClaimLeaves NoClaim claims at hleaves ⊢
  rwa [reportFeeder, hgranted, hqueue]

theorem reportFeeder_restoreEnds (n : Feeder) (s : State) : RestoreEnds n s.now s (reportFeeder n s) := by
  have hends := endRestore_ends n (removeClaim (.feeder n) s)
  unfold RestoreEnds at hends ⊢
  rw [removeClaim_sbu, show (removeClaim (.feeder n) s).now = s.now by rw [removeClaim_frame]] at hends
  exact hends

/-! ### The shed list without a feeder (R94) -/

theorem dropEntry_feeders (n : Feeder) (l : List ShedEntry) : ∀ e ∈ dropEntry n l, e.feeder ≠ n := by
  unfold dropEntry
  split
  · rename_i hnone
    simpa using hnone
  · rename_i x hfound
    intro e he
    obtain ⟨d, hd, rfl⟩ := List.mem_map.1 he
    have hother : d.feeder ≠ n := by simpa using (List.mem_filter.1 hd).2
    split <;> exact hother

/-! ### The exit path to OFF (R131) -/

theorem feederOff_eq (n : Feeder) (reason : FeederReason) (s : State) :
    feederOff n reason s = putFeeder n (parked .off reason (feeder n s)) s := rfl

/-- The states in which a feeder is under restore, so that it leaves them with a withdrawn report. -/
def InRestore (r : FeederRecord) : Prop :=
  r.state = .restoring ∨ r.state = .closing ∨ (r.state = .on ∧ r.underRestore = true)

/-- R131: what the exit path does first, by the state in which it finds the feeder. -/
theorem exitOff_cases (n : Feeder) (reason : FeederReason) (s : State) :
    let r := feeder n s
    ((r.state = .off ∨ r.state = .locked) ∧ exitOff n reason s = s) ∨
    (r.state = .shed ∧ exitOff n reason s = feederOff n reason (leaveShed n s)) ∨
    (InRestore r ∧ exitOff n reason s = feederOff n reason (reportFeeder n s)) ∨
    ((r.state = .tripped ∨ (r.state = .on ∧ r.underRestore = false)) ∧ exitOff n reason s = feederOff n reason s) := by
  dsimp only [exitOff, InRestore]
  cases (feeder n s).state with
  | on => cases (feeder n s).underRestore <;> simp
  | _ => simp

/-- Where a feeder has gone OFF by the exit path: what has become of its shed list entry, its claim record and its
restore. -/
def GoesOff (n : Feeder) (reason : FeederReason) (r : FeederRecord) (s t : State) : Prop :=
  FeederBecomes n (parked .off reason r) s t ∧
  (r.state = .shed → (∀ e ∈ t.sbu.shedList, e.feeder ≠ n) ∧ t.sbu = { s.sbu with shedList := t.sbu.shedList }) ∧
  (InRestore r → ClaimLeaves (.feeder n) s t ∧ RestoreEnds n s.now s t ∧ t.sbu.shedList = s.sbu.shedList) ∧
  (r.state = .tripped ∨ (r.state = .on ∧ r.underRestore = false) → t.sbu = s.sbu)

theorem feederOff_becomes {n : Feeder} {s u : State} (hfcu : u.fcu = s.fcu) (hrif : u.rif = s.rif)
    (reason : FeederReason) : FeederBecomes n (parked .off reason (feeder n s)) s (feederOff n reason u) := by
  have hbecomes := putFeeder_becomes n (parked .off reason (feeder n u)) u
  have hfeeder : ∀ m, feeder m u = feeder m s := fun m => by rw [feeder, hfcu, feeder]
  unfold FeederBecomes at hbecomes ⊢
  rw [hrif, hfcu] at hbecomes
  simpa only [feederOff_eq, hfeeder] using hbecomes

theorem exitOff_quiet (n : Feeder) (reason : FeederReason) (s : State) : FcuQuiet s (exitOff n reason s) := by
  obtain ⟨-, h⟩ | ⟨-, h⟩ | ⟨-, h⟩ | ⟨-, h⟩ := exitOff_cases n reason s
  · rw [h]; exact FcuQuiet.refl s
  · rw [h]; rfl
  · rw [h]; exact (reportFeeder_quiet n s).trans (putFeeder_quiet n _ _)
  · rw [h]; rfl

theorem exitOff_goesOff {n : Feeder} {s : State} (hoff : (feeder n s).state ≠ .off)
    (hlocked : (feeder n s).state ≠ .locked) (reason : FeederReason) :
    GoesOff n reason (feeder n s) s (exitOff n reason s) := by
  obtain ⟨hstate, -⟩ | ⟨hstate, h⟩ | ⟨hstate, h⟩ | ⟨hstate, h⟩ := exitOff_cases n reason s
  · exact absurd hstate (not_or.2 ⟨hoff, hlocked⟩)
  · rw [h]
    refine ⟨feederOff_becomes rfl rfl reason, fun _ => ⟨dropEntry_feeders n _, rfl⟩, fun hin => ?_, fun hon => ?_⟩
    · simp [InRestore, hstate] at hin
    · simp [hstate] at hon
  · rw [h]
    refine ⟨feederOff_becomes (reportFeeder_fcu n s) (reportFeeder_rif n s) reason, fun hshed => ?_,
      fun _ => ⟨reportFeeder_claimLeaves n s, reportFeeder_restoreEnds n s, reportFeeder_shedList n s⟩, fun hon => ?_⟩
    · simp [InRestore, hshed] at hstate
    · obtain htripped | ⟨hon, hfree⟩ := hon
      · simp [InRestore, htripped] at hstate
      · simp [InRestore, hon, hfree] at hstate
  · rw [h]
    refine ⟨feederOff_becomes rfl rfl reason, fun hshed => ?_, fun hin => ?_, fun _ => rfl⟩
    · simp [hshed] at hstate
    · obtain htripped | ⟨hon, hfree⟩ := hstate
      · simp [InRestore, htripped] at hin
      · simp [InRestore, hon, hfree] at hin

/-! ### WANT-ON, WANT-OFF and CLEAR on a feeder (R131, R132) -/

/-- The record of a feeder that is wanted, or is no longer. -/
def withDesired (desired : Bool) (r : FeederRecord) : FeederRecord := { r with desired := desired }

theorem wantOn_joins {n : Feeder} {s : State} (hoff : (feeder n s).state = .off) (hserved : servable (feeder n s) = true)
    (hrun : s.tsu.mode = .run) :
    wantOn n s = shedFeeder n .request (setFeeder n (withDesired true (feeder n s)) s) := by
  refine joinIfWanted_joins ?_
  rw [MayJoin, setFeeder_feeder_same]
  exact ⟨hoff, rfl, hserved, hrun⟩

/-- R131: a wanted feeder that joins becomes SHED from where it stood. -/
theorem wantOn_becomesShed {n : Feeder} {s : State} (hoff : (feeder n s).state = .off)
    (hserved : servable (feeder n s) = true) (hrun : s.tsu.mode = .run) :
    FcuQuiet s (wantOn n s) ∧ BecomesShed n .request (withDesired true (feeder n s)) s (wantOn n s) := by
  rw [wantOn_joins hoff hserved hrun]
  let w := setFeeder n (withDesired true (feeder n s)) s
  have hshed := shedFeeder_becomesShed n .request w
  rw [show feeder n w = _ from setFeeder_feeder_same n _ s] at hshed
  exact ⟨(setFeeder_quiet n _ s).trans (shedFeeder_quiet n .request w), hshed.after (setFeeder_othersStand n _ s) rfl⟩

theorem wantOn_stays {n : Feeder} {s : State}
    (h : (feeder n s).state ≠ .off ∨ servable (feeder n s) = false ∨ s.tsu.mode ≠ .run) :
    wantOn n s = setFeeder n (withDesired true (feeder n s)) s := by
  refine joinIfWanted_stays ?_
  rw [MayJoin, setFeeder_feeder_same]
  rintro ⟨hoff, -, hserved, hrun⟩
  obtain hoff' | hserved' | hrun' := h
  · exact hoff' hoff
  · exact absurd (hserved'.symm.trans hserved) Bool.false_ne_true
  · exact hrun' hrun

theorem setFeeder_setFeeder (n : Feeder) (r r' : FeederRecord) (s : State) :
    setFeeder n r' (setFeeder n r s) = setFeeder n r' s := by
  simp [setFeeder]

theorem wantOff_off {n : Feeder} {s : State} (h : (feeder n s).state = .off) :
    wantOff n s = setFeeder n { feeder n s with desired := false, reason := .desiredOff } s := by
  simp only [wantOff, setFeeder_feeder_same, h, setFeeder_setFeeder]

theorem wantOff_exits {n : Feeder} {s : State} (h : (feeder n s).state ≠ .off) :
    wantOff n s = exitOff n .desiredOff (setFeeder n (withDesired false (feeder n s)) s) := by
  unfold wantOff
  dsimp only
  rw [setFeeder_feeder_same]
  split
  · rename_i hoff; exact absurd hoff h
  · rfl

theorem wantOff_locked {n : Feeder} {s : State} (h : (feeder n s).state = .locked) :
    wantOff n s = setFeeder n (withDesired false (feeder n s)) s := by
  rw [wantOff_exits (by simp [h])]
  simp [exitOff, withDesired, h]

theorem wantOff_goesOff {n : Feeder} {s : State} (hoff : (feeder n s).state ≠ .off)
    (hlocked : (feeder n s).state ≠ .locked) :
    FcuQuiet s (wantOff n s) ∧ GoesOff n .desiredOff (withDesired false (feeder n s)) s (wantOff n s) := by
  rw [wantOff_exits hoff]
  let w := setFeeder n (withDesired false (feeder n s)) s
  have hw : feeder n w = withDesired false (feeder n s) := setFeeder_feeder_same n _ s
  have hexit := exitOff_goesOff (n := n) (s := w) (hw ▸ hoff) (hw ▸ hlocked) .desiredOff
  rw [hw] at hexit
  obtain ⟨hbecomes, hlists⟩ := hexit
  exact ⟨(setFeeder_quiet n _ s).trans (exitOff_quiet n _ w), hbecomes.after (setFeeder_othersStand n _ s), hlists⟩

/-- The record of a LOCKED feeder that has been cleared. -/
def unlocked (r : FeederRecord) : FeederRecord := { r with state := .off, reason := .none }

theorem clearFeeder_locked {n : Feeder} {s : State} (h : (feeder n s).state = .locked) :
    clearFeeder n s = joinIfWanted n (putFeeder n (unlocked (feeder n s)) s) := if_pos h

/-- R132: a cleared feeder is SHED where it is wanted and may be served, and OFF with reason NONE elsewhere. -/
theorem clearFeeder_unlocks {n : Feeder} {s : State} (hlocked : (feeder n s).state = .locked) :
    let r := feeder n s
    let t := clearFeeder n s
    let joins : Prop := r.desired = true ∧ servable r = true ∧ s.tsu.mode = .run
    FcuQuiet s t ∧ (joins ∧ BecomesShed n .request r s t ∨ ¬joins ∧ FeederBecomes n (unlocked r) s t ∧ t.sbu = s.sbu) := by
  dsimp only
  rw [clearFeeder_locked hlocked]
  let w := putFeeder n (unlocked (feeder n s)) s
  have hw : feeder n w = unlocked (feeder n s) := putFeeder_feeder_same n _ s
  by_cases hjoins : MayJoin n w
  · rw [joinIfWanted_joins hjoins]
    rw [MayJoin, hw] at hjoins
    obtain ⟨-, hjoins⟩ := hjoins
    have hshed := (shedFeeder_becomesShed n .request w).after (putFeeder_othersStand n _ s) rfl
    rw [hw] at hshed
    exact ⟨(putFeeder_quiet n _ s).trans (shedFeeder_quiet n .request w), .inl ⟨hjoins, hshed⟩⟩
  · rw [joinIfWanted_stays hjoins]
    rw [MayJoin, hw] at hjoins
    exact ⟨putFeeder_quiet n _ s, .inr ⟨fun hyes => hjoins ⟨rfl, hyes⟩, putFeeder_becomes n _ s, rfl⟩⟩

theorem clearFeeder_other {n : Feeder} {s : State} (h : (feeder n s).state ≠ .locked) : clearFeeder n s = s := if_neg h

/-! ### How a FEEDER request is judged and answered (R131, R145, R167) -/

theorem feederOfNumber_outside {w : Word} (h : w.toNat = 0 ∨ 12 < w.toNat) : feederOfNumber w = none :=
  dif_neg (by omega)

theorem feederOfNumber_inside {w : Word} {n : Feeder} (h : w.toNat = n.val + 1) : feederOfNumber w = some n := by
  have hn := n.isLt
  unfold feederOfNumber
  rw [dif_pos (by omega)]
  exact congrArg some (Fin.ext (by dsimp only; omega))

/-- What a want is answered with: management's is answered, the schedule's is not. -/
def wantReply (origin : Origin) (status : Status) : List Instr :=
  match origin with
  | .management => [plainAnswer status]
  | .schedule => []

/-- A state with what a want is answered with issued in it. -/
def replied (origin : Origin) (status : Status) (s : State) : State :=
  { s with issued := s.issued ++ wantReply origin status }

theorem feederWant_eq (origin : Origin) (number : Word) (act : Feeder → State → State) (s : State) :
    feederWant origin number act s =
      replied origin (judgeFeeder number act s).1 (judgeFeeder number act s).2 := by
  cases origin with
  | management => rfl
  | schedule => simp [feederWant, feederAction, replied, wantReply]

theorem feederWant_outside {number : Word} (h : number.toNat = 0 ∨ 12 < number.toNat) (origin : Origin)
    (act : Feeder → State → State) (s : State) :
    feederWant origin number act s = replied origin .badArgument s := by
  rw [feederWant_eq, judgeFeeder, feederOfNumber_outside h]

theorem feederWant_absent {number : Word} {n : Feeder} {s : State} (h : number.toNat = n.val + 1)
    (habsent : feederAbsent (feeder n s) = true) (origin : Origin) (act : Feeder → State → State) :
    feederWant origin number act s = replied origin .absent s := by
  rw [feederWant_eq, judgeFeeder, feederOfNumber_inside h]
  dsimp only
  rw [if_pos habsent]

theorem feederWant_done {number : Word} {n : Feeder} {s : State} (h : number.toNat = n.val + 1)
    (hpresent : feederAbsent (feeder n s) = false) (origin : Origin) (act : Feeder → State → State) :
    feederWant origin number act s = replied origin .done (act n s) := by
  rw [feederWant_eq, judgeFeeder, feederOfNumber_inside h]
  dsimp only
  rw [if_neg (by simp [hpresent])]

theorem replied_issued {c : Instr} {s t : State} (h : FcuQuiet (take c s) t) (origin : Origin) (status : Status) :
    (replied origin status t).issued = flightAfter c s (wantReply origin status) :=
  congrArg (· ++ wantReply origin status) h.issued

theorem exec_feederWantOn (origin : Origin) (number : Word) {s : State} (h : s.mainPresent = true) :
    exec (.feederWantOn origin number) s =
      .next (feederWant origin number wantOn (take (.feederWantOn origin number) s)) :=
  congrArg _ (powered_true s _ h)

theorem exec_feederWantOff (origin : Origin) (number : Word) {s : State} (h : s.mainPresent = true) :
    exec (.feederWantOff origin number) s =
      .next (feederWant origin number wantOff (take (.feederWantOff origin number) s)) :=
  congrArg _ (powered_true s _ h)

/-- A CLEAR is judged and answered as a want of management is. -/
theorem exec_feederClear (number : Word) {s : State} (h : s.mainPresent = true) :
    exec (.feederClear number) s =
      .next (feederWant .management number clearFeeder (take (.feederClear number) s)) :=
  congrArg _ (powered_true s _ h)

/-- Settles O47, by the cases of the request and then of the feeder's state: WANT-ON joins the shed list or sets the
desired state alone; WANT-OFF sets the record alone in OFF and LOCKED and is the exit path in every other state. -/
theorem wantsMoveTheFeeder : Obligations.WantsMoveTheFeeder := by
  intro origin number s hmain
  dsimp only
  rw [exec_feederWantOn origin number hmain, exec_feederWantOff origin number hmain]
  let u := take (.feederWantOn origin number) s
  let v := take (.feederWantOff origin number) s
  refine ⟨fun hout => ?outside, fun n hn => ⟨fun habsent => ?absent, fun hpresent =>
    ⟨fun hoff hserved hrun => ?joins, fun hstays => ?stays, fun hoff => ?off, fun hlocked => ?locked,
      fun hoff hlocked => ?exits⟩⟩⟩
  case outside =>
    rw [feederWant_outside hout, feederWant_outside hout]
    exact ⟨rfl, rfl⟩
  case absent =>
    rw [feederWant_absent (s := u) hn habsent, feederWant_absent (s := v) hn habsent]
    exact ⟨rfl, rfl⟩
  case joins =>
    rw [RunsTo, exec_feederWantOn origin number hmain, feederWant_done (s := u) hn hpresent]
    obtain ⟨hquiet, hshed⟩ := wantOn_becomesShed (s := u) hoff hserved hrun
    exact ⟨_, rfl, hquiet.fcuAlone _, hshed, replied_issued hquiet origin .done⟩
  case stays =>
    rw [feederWant_done (s := u) hn hpresent, wantOn_stays (s := u) hstays]
    rfl
  case off =>
    rw [feederWant_done (s := v) hn hpresent, wantOff_off (s := v) hoff]
    rfl
  case locked =>
    rw [feederWant_done (s := v) hn hpresent, wantOff_locked (s := v) hlocked]
    rfl
  case exits =>
    rw [RunsTo, exec_feederWantOff origin number hmain, feederWant_done (s := v) hn hpresent]
    obtain ⟨hquiet, hbecomes, hshed, hrestore, hplain⟩ := wantOff_goesOff (s := v) hoff hlocked
    exact ⟨_, rfl, hquiet.fcuAlone _, replied_issued hquiet origin .done, hbecomes, hshed, hrestore, hplain⟩

/-- Settles O48: a CLEAR is judged as a want of management; in LOCKED the feeder becomes SHED or OFF, and either record
keeps the last-trip time and commands the breaker OPEN. -/
theorem clearUnlocksTheFeeder : Obligations.ClearUnlocksTheFeeder := by
  intro number s hmain
  dsimp only
  rw [exec_feederClear number hmain]
  let u := take (.feederClear number) s
  refine ⟨fun hout => ?outside, fun n hn => ⟨fun habsent => ?absent, fun hpresent hlocked => ?locked,
    fun hpresent hother => ?other⟩⟩
  case outside =>
    rw [feederWant_outside hout]
    rfl
  case absent =>
    rw [feederWant_absent (s := u) hn habsent]
    rfl
  case locked =>
    rw [RunsTo, exec_feederClear number hmain, feederWant_done (s := u) hn hpresent]
    obtain ⟨hquiet, hcases⟩ := clearFeeder_unlocks (s := u) hlocked
    refine ⟨_, rfl, hquiet.fcuAlone _, replied_issued hquiet .management .done, ?_⟩
    obtain ⟨hjoins, hshed⟩ | ⟨hjoins, hbecomes, hsbu⟩ := hcases
    · have ⟨⟨hrecord, _, _, hbreaker, _⟩, _⟩ := hshed
      have hlast := congrArg FeederRecord.lastTrip hrecord
      exact ⟨hlast, hbreaker, fun _ => hshed, fun hnot => absurd hjoins hnot⟩
    · have ⟨hrecord, _, _, hbreaker, _⟩ := hbecomes
      have hlast := congrArg FeederRecord.lastTrip hrecord
      exact ⟨hlast, hbreaker, fun hyes => absurd hyes hjoins, fun _ => ⟨hbecomes, hsbu⟩⟩
  case other =>
    rw [feederWant_done (s := u) hn hpresent, clearFeeder_other (s := u) hother]
    rfl

end Sys2Proof.Machine
end

section
/-! PROOFS. Energy accounts: the band of a minute event, the day boundary and the reset of an account (spec/08, R152,
R153, R156, R157). -/

namespace Sys2Proof.Machine

/-! ### Reads of a state whose entries read alike -/

theorem EntriesReadAlike.activeReads_eq {s t : State} (h : EntriesReadAlike s t) {x : TableId}
    (hactive : (table x t).active = (table x s).active) (i : Nat) : activeReads x i t = activeReads x i s := by
  unfold activeReads
  rw [hactive]
  exact h x _ i

theorem EntriesReadAlike.ownerReads_eq {s t : State} (h : EntriesReadAlike s t) {x : TableId}
    (htable : table x t = table x s) (i : Nat) : ownerReads x i t = ownerReads x i s := by
  unfold ownerReads
  rw [htable]
  exact h x _ i

theorem takePending_table_other {t u : TableId} (h : u ≠ t) (s : State) : table u (takePending t s) = table u s := by
  unfold takePending
  split
  · exact (setTable_table t u _ s).trans (if_neg h)
  · rfl

/-- Once an owner has taken a table's swap, the active bank is the one that its reads go to (R176). -/
theorem activeReads_takePending (t : TableId) (i : Nat) (s : State) :
    activeReads t i (takePending t s) = ownerReads t i s := by
  rw [← readActive_result, ownerReads_result]

/-! ### The evaluation of the band (R152, R153) -/

theorem holidayMatches_iff (month day : Nat) (r : ReadResult) :
    holidayMatches month day r = true ↔ ∃ img, r = .good img ∧ holidayEntry img = (month, day) := by
  cases r <;> simp [holidayMatches]

theorem mem_holidayIndexes (i : Nat) : i ∈ tableIndexes .holidays ↔ 1 ≤ i ∧ i ≤ 16 := by
  have hrange : tableIndexes .holidays = List.range' 1 16 := by decide
  rw [hrange, List.mem_range'_1]
  omega

theorem holidaysRead_any_iff (stamp : Stamp) (reads : Nat → ReadResult) :
    ((tableIndexes .holidays).map reads).any (holidayMatches stamp.month stamp.day) = true ↔ HolidayIn reads stamp := by
  simp only [HolidayIn, List.any_map, List.any_eq_true, mem_holidayIndexes, Function.comp_apply, holidayMatches_iff,
    ← exists_and_left, and_assoc]

theorem dayTypeOf_rest {stamp : Stamp} {reads : Nat → ReadResult}
    (h : stamp.weekday = .sunday ∨ HolidayIn reads stamp) :
    dayTypeOf stamp ((tableIndexes .holidays).map reads) = .rest := by
  rw [← holidaysRead_any_iff] at h
  exact if_pos h

theorem dayTypeOf_workday {stamp : Stamp} {reads : Nat → ReadResult}
    (h : ¬(stamp.weekday = .sunday ∨ HolidayIn reads stamp)) :
    dayTypeOf stamp ((tableIndexes .holidays).map reads) = .workday := by
  rw [← holidaysRead_any_iff] at h
  exact if_neg h

theorem recordBand_frame (d : DayType) (slot : Nat) (r : ReadResult) (s : State) :
    let e := (recordBand d slot r s).eau
    recordBand d slot r s =
      { s with eau := { s.eau with band := e.band, dayType := e.dayType, slot := e.slot, basis := e.basis } } := by
  cases r <;> rfl

/-- R152 step 3: what the record holds, by the status of the TARIFF read. -/
theorem recordBand_records (d : DayType) (slot : Nat) (r : ReadResult) (s : State) :
    let e := (recordBand d slot r s).eau
    e.slot = some slot ∧ e.dayType = some d ∧
    (∀ img, r = .good img → e.band = tariffEntry img ∧ e.basis = .table) ∧
    (readStatus r ≠ .good → e.band = .standard ∧ e.basis = .entryNotGood) := by
  cases r <;> simp [recordBand, readStatus]

/-- The record of a valid stamp follows the reads of the HOLIDAYS and TARIFF entries. -/
theorem recordBand_follows {stamp : Stamp} (hvalid : stamp.valid = true) (tariff holidays : Nat → ReadResult)
    (s : State) :
    let day := dayTypeOf stamp ((tableIndexes .holidays).map holidays)
    BandFollows stamp tariff holidays
      (recordBand day (halfHour stamp) (tariff (tariffIndex day (halfHour stamp))) s).eau := by
  intro day
  refine ⟨fun hinvalid => by simp [hvalid] at hinvalid, fun _ => ?_⟩
  intro rest slot
  have hrest : rest → day = .rest := dayTypeOf_rest
  have hwork : ¬rest → day = .workday := dayTypeOf_workday
  obtain ⟨hslot, hday, hrecord⟩ := recordBand_records day slot (tariff (tariffIndex day slot)) s
  refine ⟨hslot, fun h => hday.trans (congrArg some (hrest h)), fun h => hday.trans (congrArg some (hwork h)),
    fun i hi hi' => ?_⟩
  have hindex : tariffIndex day slot = i := by
    by_cases h : rest
    · rw [hrest h, hi h]; rfl
    · rw [hwork h, hi' h]; rfl
  rw [← hindex]
  exact hrecord

/-- The state in which a valid evaluation has made its reads: the HOLIDAYS entries, and then the TARIFF entry. -/
def afterBandReads (stamp : Stamp) (s : State) : State :=
  let day := dayTypeOf stamp (readActives .holidays (tableIndexes .holidays) s).1
  (readActive .tariff (tariffIndex day (halfHour stamp)) (readActives .holidays (tableIndexes .holidays) s).2).2

theorem afterBandReads_store (stamp : Stamp) (s : State) :
    StoreOnly s (afterBandReads stamp s) ∧ EntriesReadAlike s (afterBandReads stamp s) ∧
      SameSwaps s (afterBandReads stamp s) :=
  ⟨(readActives_storeOnly _ _ s).trans (readActive_storeOnly _ _ _),
    (readActives_entriesReadAlike _ _ s).trans fun u c j => readBank_keeps _ u _ c _ j _,
    (readActives_sameSwaps _ _ s).trans (readActive_sameSwaps _ _ _)⟩

/-- R152: a valid evaluation reads, and then records the band of the entries as they stood before its reads. -/
theorem evaluateBand_valid {stamp : Stamp} (hvalid : stamp.valid = true) (s : State) :
    let day := dayTypeOf stamp ((tableIndexes .holidays).map fun i => activeReads .holidays i s)
    evaluateBand stamp s =
      recordBand day (halfHour stamp) (activeReads .tariff (tariffIndex day (halfHour stamp)) s)
        (afterBandReads stamp s) := by
  intro day
  have hday : dayTypeOf stamp (readActives .holidays (tableIndexes .holidays) s).1 = day := by
    rw [readActives_result]
  have hread (i : Nat) :
      (readActive .tariff i (readActives .holidays (tableIndexes .holidays) s).2).1 = activeReads .tariff i s := by
    obtain ⟨hactive, -⟩ := readActives_sameSwaps .holidays (tableIndexes .holidays) s .tariff
    rw [readActive_result, (readActives_entriesReadAlike .holidays _ s).activeReads_eq hactive]
  simp only [evaluateBand, afterBandReads, hvalid, if_true, hday, hread]

theorem evaluateBand_invalid {stamp : Stamp} (hvalid : stamp.valid = false) (s : State) :
    evaluateBand stamp s = { s with eau := { s.eau with
      band := .standard, dayType := none, slot := none, basis := .calendarInvalid } } := by
  simp [evaluateBand, hvalid, updEau]

/-- Everything an evaluation does: its reads, and the band record that follows the stamp and the entries. -/
theorem evaluateBand_follows (stamp : Stamp) (s : State) :
    let t := evaluateBand stamp s
    ∃ u, StoreOnly s u ∧ EntriesReadAlike s u ∧ SameSwaps s u ∧
      t = { u with eau := { u.eau with
        band := t.eau.band, dayType := t.eau.dayType, slot := t.eau.slot, basis := t.eau.basis } } ∧
      BandFollows stamp (fun i => activeReads .tariff i s) (fun i => activeReads .holidays i s) t.eau := by
  intro t
  cases hvalid : stamp.valid with
  | true =>
    have ht := evaluateBand_valid hvalid s
    obtain ⟨hstore, halike, hswaps⟩ := afterBandReads_store stamp s
    refine ⟨afterBandReads stamp s, hstore, halike, hswaps, ?_⟩
    rw [show t = _ from ht]
    exact ⟨recordBand_frame _ _ _ _, recordBand_follows hvalid _ _ _⟩
  | false =>
    have ht := evaluateBand_invalid hvalid s
    refine ⟨s, StoreOnly.refl s, EntriesReadAlike.refl s, SameSwaps.refl s, ?_⟩
    rw [show t = _ from ht]
    exact ⟨rfl, fun _ => ⟨rfl, rfl, rfl, rfl⟩, fun h => by simp [hvalid] at h⟩

/-! ### A minute event -/

theorem exec_eauMinuteEvent (stamp : Stamp) {s : State} (h : s.mainPresent = true) :
    exec (.eauMinuteEvent stamp) s = .next (eauMinuteEvent stamp (take (.eauMinuteEvent stamp) s)) :=
  congrArg _ (powered_true s _ h)

/-- The state in which EAU has taken the swaps of its two tables (R153, R176). -/
def bandSwapsTaken (s : State) : State := takePending .holidays (takePending .tariff s)

theorem bandSwapsTaken_store (s : State) : StoreOnly s (bandSwapsTaken s) ∧ EntriesReadAlike s (bandSwapsTaken s) :=
  ⟨(takePending_storeOnly .tariff s).trans (takePending_storeOnly .holidays _),
    (takePending_entriesReadAlike .tariff s).trans (takePending_entriesReadAlike .holidays _)⟩

theorem bandSwapsTaken_tariff (s : State) :
    table .tariff (bandSwapsTaken s) = table .tariff (takePending .tariff s) :=
  takePending_table_other (by decide) _

theorem bandSwapsTaken_pending (s : State) :
    (table .tariff (bandSwapsTaken s)).pending = false ∧ (table .holidays (bandSwapsTaken s)).pending = false :=
  ⟨bandSwapsTaken_tariff s ▸ takePending_pending .tariff s, takePending_pending .holidays _⟩

/-- After its swaps, what EAU reads of the active banks is what its owner's reads give (R176). -/
theorem activeReads_bandSwapsTaken (i : Nat) (s : State) :
    activeReads .tariff i (bandSwapsTaken s) = ownerReads .tariff i s ∧
    activeReads .holidays i (bandSwapsTaken s) = ownerReads .holidays i s := by
  let u := takePending .tariff s
  have hactive : (table .tariff (bandSwapsTaken s)).active = (table .tariff u).active := by rw [bandSwapsTaken_tariff]
  have htable : table .holidays u = table .holidays s := takePending_table_other (by decide) s
  constructor
  · calc activeReads .tariff i (bandSwapsTaken s)
      _ = activeReads .tariff i u := (takePending_entriesReadAlike .holidays u).activeReads_eq hactive i
      _ = ownerReads .tariff i s := activeReads_takePending .tariff i s
  · calc activeReads .holidays i (bandSwapsTaken s)
      _ = ownerReads .holidays i u := activeReads_takePending .holidays i u
      _ = ownerReads .holidays i s := (takePending_entriesReadAlike .tariff s).ownerReads_eq htable i

/-- Everything a minute event does to EAU and the store: the swaps taken, the reads made, and the band record that
follows the stamp and the entries as EAU reads them. -/
theorem eauMinuteEvent_follows (stamp : Stamp) (s : State) :
    let t := eauMinuteEvent stamp s
    ∃ u, StoreOnly s u ∧ EntriesReadAlike s u ∧
      (table .tariff u).pending = false ∧ (table .holidays u).pending = false ∧
      t = { u with eau := { u.eau with
        band := t.eau.band, dayType := t.eau.dayType, slot := t.eau.slot, basis := t.eau.basis } } ∧
      BandFollows stamp (fun i => ownerReads .tariff i s) (fun i => ownerReads .holidays i s) t.eau := by
  intro t
  obtain ⟨u, hstore, halike, hswaps, hframe, hfollows⟩ := evaluateBand_follows stamp (bandSwapsTaken s)
  obtain ⟨htakenStore, htakenAlike⟩ := bandSwapsTaken_store s
  obtain ⟨htariff, hholidays⟩ := bandSwapsTaken_pending s
  obtain ⟨-, htariff', -⟩ := hswaps .tariff
  obtain ⟨-, hholidays', -⟩ := hswaps .holidays
  simp only [activeReads_bandSwapsTaken] at hfollows
  exact ⟨u, htakenStore.trans hstore, htakenAlike.trans halike, htariff'.trans htariff, hholidays'.trans hholidays,
    hframe, hfollows⟩

/-! ### Tiers that return to NORMAL (R156, R157) -/

/-- The tier notices of feeders that return to NORMAL, in the order in which they do. -/
def normalNotices (l : List Feeder) (tiers : Vector Tier 12) : List Instr :=
  (l.filter fun n => tiers[n] = .reduced).map fun n => .tierNotice n .normal

/-- Of two states: the tiers of the feeders listed have returned to NORMAL, with a notice for each that was REDUCED, and
nothing else has changed. -/
def TiersReturn (l : List Feeder) (s t : State) : Prop :=
  t = { s with issued := s.issued ++ normalNotices l s.eau.tiers, eau := { s.eau with tiers := t.eau.tiers } } ∧
  ∀ n : Feeder, t.eau.tiers[n] = if n ∈ l then .normal else s.eau.tiers[n]

theorem normalNotices_reduced {n : Feeder} {tiers : Vector Tier 12} (h : tiers[n] = .reduced) :
    normalNotices [n] tiers = [.tierNotice n .normal] := by
  have hget : tiers[n.val] = .reduced := h
  simp [normalNotices, hget]

theorem normalNotices_normal {l : List Feeder} {tiers : Vector Tier 12} (h : ∀ n ∈ l, tiers[n] = .normal) :
    normalNotices l tiers = [] := by
  have hnone : ∀ n ∈ l, ¬decide (tiers[n] = .reduced) = true := fun n hn => by simp [h n hn]
  rw [normalNotices, List.filter_eq_nil_iff.2 hnone, List.map_nil]

theorem TiersReturn.refl (s : State) : TiersReturn [] s s := ⟨by simp [normalNotices], by simp⟩

theorem normalNotices_congr {l : List Feeder} {tiers tiers' : Vector Tier 12} (h : ∀ n ∈ l, tiers'[n] = tiers[n]) :
    normalNotices l tiers' = normalNotices l tiers := by
  unfold normalNotices
  rw [List.filter_congr fun n hn => by rw [h n hn]]

theorem normalNotices_append (l k : List Feeder) (tiers : Vector Tier 12) :
    normalNotices (l ++ k) tiers = normalNotices l tiers ++ normalNotices k tiers := by
  simp [normalNotices]

theorem TiersReturn.append {l k : List Feeder} {s t u : State} (h : TiersReturn l s t) (h' : TiersReturn k t u)
    (hdisjoint : ∀ n ∈ k, n ∉ l) : TiersReturn (l ++ k) s u := by
  obtain ⟨hframe, htiers⟩ := h
  obtain ⟨hframe', htiers'⟩ := h'
  have hsame : ∀ n ∈ k, t.eau.tiers[n] = s.eau.tiers[n] := fun n hn => by rw [htiers, if_neg (hdisjoint n hn)]
  rw [normalNotices_congr hsame] at hframe'
  refine ⟨?frame, fun n => ?tiers⟩
  case frame => rw [hframe', hframe, normalNotices_append, ← List.append_assoc]
  case tiers =>
    rw [htiers', htiers]
    by_cases hk : n ∈ k <;> simp [hk]

theorem normalTier_tiersReturn (n : Feeder) (s : State) : TiersReturn [n] s (normalTier n s) := by
  unfold normalTier
  split
  case h_1 hreduced =>
    refine ⟨by rw [normalNotices_reduced hreduced]; rfl, fun m => ?_⟩
    by_cases h : m = n
    · subst h; simp
    · have : n.val ≠ m.val := fun e => h (Fin.ext e.symm)
      simp [h, this]
  case h_2 hnormal =>
    refine ⟨by rw [normalNotices_normal (by simpa using hnormal), List.append_nil], fun m => ?_⟩
    by_cases h : m = n
    · subst h; simpa using hnormal
    · simp [h]

theorem foldl_normalTier_tiersReturn {l : List Feeder} (hnodup : l.Nodup) (s : State) :
    TiersReturn l s (l.foldl (fun s n => normalTier n s) s) := by
  induction l generalizing s with
  | nil => exact TiersReturn.refl s
  | cons n rest ih =>
    obtain ⟨hn, hrest⟩ := List.nodup_cons.1 hnodup
    exact (normalTier_tiersReturn n s).append (ih hrest (normalTier n s)) fun m hm hmn =>
      hn (List.mem_singleton.1 hmn ▸ hm)

theorem eachFeeder_normalTier (s : State) : TiersReturn (List.finRange 12) s (eachFeeder normalTier s) :=
  foldl_normalTier_tiersReturn (List.nodup_finRange 12) s

/-! ### The day boundary (R156) -/

theorem exec_dayBoundary {s : State} (h : s.mainPresent = true) :
    exec .dayBoundary s = .next (dayBoundaryAction (take .dayBoundary s)) :=
  calc exec .dayBoundary s
    _ = execDayBoundary s := rfl
    _ = _ := congrArg Host.Outcome.next (powered_true s _ h)

/-- The state in which the daily total of every account is cleared. -/
def dailyCleared (s : State) : State :=
  { s with eau := { s.eau with accounts := Vec.ofFn fun i => { s.eau.accounts[i] with daily := 0 } } }

theorem dailyCleared_account (i : Fin 14) (s : State) : account i (dailyCleared s) = { account i s with daily := 0 } :=
  Vec.getElem_ofFn _ i

theorem dayBoundaryAction_tiersReturn (s : State) :
    TiersReturn (List.finRange 12) (dailyCleared s) (dayBoundaryAction s) := eachFeeder_normalTier (dailyCleared s)

/-! ### The reset of an account (R157) -/

theorem exec_accountReset (number : Word) {s : State} (h : s.mainPresent = true) :
    exec (.accountReset number) s = .next (accountReset number (take (.accountReset number) s)) :=
  congrArg _ (powered_true s _ h)

theorem accountOfNumber_outside {w : Word} (h : w.toNat = 0 ∨ 14 < w.toNat) : accountOfNumber w = none :=
  dif_neg (by omega)

theorem accountOfNumber_inside {w : Word} {i : Fin 14} (h : w.toNat = i.val + 1) : accountOfNumber w = some i := by
  have hi := i.isLt
  unfold accountOfNumber
  rw [dif_pos (by omega)]
  exact congrArg some (Fin.ext (by dsimp only; omega))

theorem accountReset_outside {w : Word} (h : w.toNat = 0 ∨ 14 < w.toNat) (s : State) :
    accountReset w s = answer .badArgument [] s := by
  rw [accountReset, accountOfNumber_outside h]

theorem accountReset_refused {w : Word} {i : Fin 14} (h : w.toNat = i.val + 1) {s : State}
    (hmode : s.tsu.mode ≠ .commission) : accountReset w s = answer .refusedMode [] s := by
  rw [accountReset, accountOfNumber_inside h]
  exact if_neg hmode

theorem accountReset_done {w : Word} {i : Fin 14} (h : w.toNat = i.val + 1) {s : State}
    (hmode : s.tsu.mode = .commission) : accountReset w s = answer .done [] (zeroAccount i s) := by
  rw [accountReset, accountOfNumber_inside h]
  exact if_pos hmode

theorem setAccount_account (i j : Fin 14) (a : Account) (s : State) :
    account j (setAccount i a s) = if j = i then a else account j s := by
  by_cases h : j = i
  · subst h; simp [account]
  · have : i.val ≠ j.val := fun e => h (Fin.ext e.symm)
    simp [account, h, this]

/-- The feeder whose account is reset, if the account is a feeder's. -/
def feedersOfAccount (i : Fin 14) : List Feeder := (feederOfAccount i).toList

theorem mem_feedersOfAccount (n : Feeder) (i : Fin 14) : n ∈ feedersOfAccount i ↔ n.val = i.val := by
  unfold feedersOfAccount feederOfAccount
  split
  · simp [Fin.ext_iff]
  · simp; omega

theorem feedersOfAccount_feeder {n : Feeder} {i : Fin 14} (h : n.val = i.val) : feedersOfAccount i = [n] := by
  simp [feedersOfAccount, feederOfAccount, ← h]

theorem zeroAccount_tiersReturn (i : Fin 14) (s : State) :
    TiersReturn (feedersOfAccount i) (setAccount i Account.zero s) (zeroAccount i s) := by
  unfold zeroAccount feedersOfAccount
  cases feederOfAccount i with
  | some n => exact normalTier_tiersReturn n _
  | none => exact TiersReturn.refl _

/-! ### The statement -/

theorem minuteEvent_recordsTheBand (stamp : Stamp) {s : State} (hmain : s.mainPresent = true) :
    RunsTo (.eauMinuteEvent stamp) s fun t =>
      t = { s with
        issued := t.issued, tbs := t.tbs
        eau := { s.eau with
          band := t.eau.band, dayType := t.eau.dayType, slot := t.eau.slot, basis := t.eau.basis } } ∧
      EntriesReadAlike s t ∧ Issues (.eauMinuteEvent stamp) s t [] ∧
      (table .tariff t).pending = false ∧ (table .holidays t).pending = false ∧
      BandFollows stamp (fun i => ownerReads .tariff i s) (fun i => ownerReads .holidays i s) t.eau := by
  obtain ⟨u, hstore, halike, htariff, hholidays, ht, hfollows⟩ :=
    eauMinuteEvent_follows stamp (take (.eauMinuteEvent stamp) s)
  refine ⟨_, exec_eauMinuteEvent stamp hmain, ?_⟩
  generalize eauMinuteEvent stamp (take (.eauMinuteEvent stamp) s) = t at ht hfollows ⊢
  have htbs : t.tbs = u.tbs := by rw [ht]
  have hissued : t.issued = u.issued := by rw [ht]
  have htable (x : TableId) : table x t = table x u := table_congr (congrArg Tbs.tables htbs) x
  refine ⟨?frame, ?alike, ?issues, ?tariff, ?holidays, hfollows⟩
  case frame =>
    obtain ⟨hframe, -⟩ := hstore
    rw [htbs, hissued]
    exact ht.trans (by rw [hframe]; rfl)
  case alike =>
    intro x b j
    rw [entryAt_congr (congrArg Tbs.tables htbs)]
    exact halike x b j
  case issues =>
    rw [Issues, hissued]
    exact hstore.issuesOn
  case tariff => rw [htable, htariff]
  case holidays => rw [htable, hholidays]

theorem dayBoundary_clearsTheDay {s : State} (hmain : s.mainPresent = true) :
    RunsTo .dayBoundary s fun t =>
      t = { s with
        issued := flightAfter .dayBoundary s (normalNotices (List.finRange 12) s.eau.tiers)
        eau := { s.eau with accounts := t.eau.accounts, tiers := t.eau.tiers } } ∧
      (∀ i : Fin 14, account i t = { account i s with daily := 0 }) ∧ ∀ n : Feeder, t.eau.tiers[n] = .normal := by
  let u := take .dayBoundary s
  obtain ⟨hframe, htiers⟩ := dayBoundaryAction_tiersReturn u
  refine ⟨dayBoundaryAction u, exec_dayBoundary hmain, ?frame, fun i => ?accounts, fun n => ?tiers⟩
  case frame =>
    generalize dayBoundaryAction u = t at hframe
    rw [hframe]
    rfl
  case accounts =>
    have haccounts : (dayBoundaryAction u).eau.accounts = (dailyCleared u).eau.accounts := by rw [hframe]
    rw [account, haccounts]
    exact dailyCleared_account i u
  case tiers => rw [htiers, if_pos (List.mem_finRange n)]

theorem accountReset_zeroes {number : Word} {i : Fin 14} (hnumber : number.toNat = i.val + 1) {s : State}
    (hmain : s.mainPresent = true) (hmode : s.tsu.mode = .commission) :
    RunsTo (.accountReset number) s fun t =>
      t = { s with
        issued := flightAfter (.accountReset number) s
          (normalNotices (feedersOfAccount i) s.eau.tiers ++ [plainAnswer .done])
        eau := { s.eau with accounts := t.eau.accounts, tiers := t.eau.tiers } } ∧
      account i t = Account.zero ∧ (∀ j : Fin 14, j ≠ i → account j t = account j s) ∧
      ∀ n : Feeder, t.eau.tiers[n] = if n.val = i.val then .normal else s.eau.tiers[n] := by
  let u := take (.accountReset number) s
  obtain ⟨hframe, htiers⟩ := zeroAccount_tiersReturn i u
  have haccount (j : Fin 14) : account j (zeroAccount i u) = if j = i then Account.zero else account j s := by
    have haccounts : (zeroAccount i u).eau.accounts = (setAccount i Account.zero u).eau.accounts := by rw [hframe]
    rw [account, haccounts]
    exact setAccount_account i j Account.zero u
  refine ⟨answer .done [] (zeroAccount i u), ?runs, ?frame, ?zeroed, fun j hj => ?others, fun n => ?tiers⟩
  case runs => rw [exec_accountReset number hmain, accountReset_done (s := u) hnumber hmode]
  case frame =>
    generalize zeroAccount i u = t at hframe
    rw [hframe]
    simp [answer, issue, flightAfter, plainAnswer, u]
  case zeroed => exact (haccount i).trans (if_pos rfl)
  case others => exact (haccount j).trans (if_neg hj)
  case tiers => exact (htiers n).trans (if_congr (mem_feedersOfAccount n i) rfl rfl)

/-- Settles O53: the minute event takes the swaps and reads, and records the band that follows; at the day boundary every
daily total is cleared and every tier is NORMAL again; ACCOUNT-RESET zeroes the account of its number, and the tier notice, where
there is one, goes before the answer. -/
theorem bandDayBoundaryAndReset : Obligations.BandDayBoundaryAndReset := by
  intro s hmain
  refine ⟨fun stamp _ => ?minute, dayBoundary_clearsTheDay hmain, fun number => ⟨fun hout => ?outside, fun i hnumber =>
    ⟨fun hmode => ?refused, fun hmode => ?reset⟩⟩⟩
  case minute =>
    obtain ⟨t, hexec, hframe, halike, hissues, htariff, hholidays, hinvalid, hvalid⟩ :=
      minuteEvent_recordsTheBand stamp hmain
    exact ⟨t, hexec, hframe, halike, hissues, htariff, hholidays, hinvalid, hvalid⟩
  case outside =>
    rw [exec_accountReset number hmain, accountReset_outside hout]
    rfl
  case refused =>
    rw [exec_accountReset number hmain, accountReset_refused hnumber (s := take _ s) hmode]
    rfl
  case reset =>
    obtain ⟨t, hexec, hframe, hzeroed, hothers, htiers⟩ := accountReset_zeroes hnumber hmain hmode
    have hissued : t.issued = _ := congrArg State.issued hframe
    refine ⟨t, hexec, ?_, hzeroed, hothers, htiers, fun n hn hreduced => ?_, fun hnormal => ?_⟩
    · rw [hissued]
      exact hframe
    · rw [hissued, feedersOfAccount_feeder hn, normalNotices_reduced hreduced]
      rfl
    · rw [hissued, normalNotices_normal fun n hn => hnormal n ((mem_feedersOfAccount n i).1 hn)]
      rfl

end Sys2Proof.Machine
end

section
/-! PROOFS. Table Store: a record that leaves the damaged-entry list, the reads of a whole bank, the validation of a swap, and
the four table requests (spec/10, R172 to R180). -/

namespace Sys2Proof.Machine

/-! ### The DAMAGED entries in their order (R179) -/

theorem bankWf_iff_pairwise (b : BankStore) : bankWf b = true ↔ b.Pairwise fun p q => p.1 < q.1 := by
  induction b with
  | nil => simp [bankWf]
  | cons p rest ih =>
    rw [bankWf_cons, ih, List.pairwise_cons]
    rfl

theorem mem_bank_iff {b : BankStore} (h : bankWf b = true) (i : Nat) (e : Stored) :
    (i, e) ∈ b ↔ bankRead b i = some e := by
  induction b with
  | nil => simp [bankRead]
  | cons p rest ih =>
    obtain ⟨k, d⟩ := p
    obtain ⟨habove, hrest⟩ := (bankWf_cons k d rest).1 h
    by_cases hk : k = i
    · subst hk
      have hout : (k, e) ∉ rest := fun hm => Nat.lt_irrefl k (habove _ hm)
      simp [bankRead, hout, eq_comm]
    · simp [bankRead, hk, Ne.symm hk, ih hrest]

theorem mem_damagedOf {s : State} (h : tbsWf s.tbs = true) (t : TableId) (b : Bank) (d : DamagedRef) :
    d ∈ damagedOf t b s ↔ d.table = t ∧ d.bank = b ∧ entryAt d.table d.bank d.index s = some .damaged := by
  have hbank : bankWf (bankOf (table t s) b) = true := tableWf_bankOf ((tbsWf_iff s).1 h t) b
  simp only [damagedOf, List.mem_filterMap, Prod.exists, mem_bank_iff hbank]
  constructor
  · rintro ⟨i, e, he, hd⟩
    cases e with
    | good => cases hd
    | damaged => cases hd; exact ⟨rfl, rfl, he⟩
  · rintro ⟨rfl, rfl, hd⟩
    exact ⟨d.index, .damaged, hd, rfl⟩

theorem mem_unrecorded {s : State} (h : tbsWf s.tbs = true) (d : DamagedRef) :
    d ∈ unrecorded s ↔ WithoutRecord s.tbs.damagedList s d := by
  have htable : d.table ∈ allTables := by cases d.table <;> decide
  have hbank : d.bank = .bankA ∨ d.bank = .bankB := by cases d.bank <;> decide
  simp only [unrecorded, List.mem_filter, List.mem_flatMap, List.mem_append, mem_damagedOf h, WithoutRecord,
    Bool.not_eq_true', List.contains_eq_mem, decide_eq_false_iff_not]
  refine and_congr_left fun _ => ⟨?_, fun hdamaged => ⟨d.table, htable, ?_⟩⟩
  · rintro ⟨t, -, ⟨-, -, hdamaged⟩ | ⟨-, -, hdamaged⟩⟩ <;> exact hdamaged
  · exact hbank.imp (fun hA => ⟨rfl, hA, hdamaged⟩) fun hB => ⟨rfl, hB, hdamaged⟩

theorem refBefore_asymm {d e : DamagedRef} (h : refBefore d e) : ¬refBefore e d := by
  unfold refBefore at *
  grind

theorem refBefore_irrefl (d : DamagedRef) : ¬refBefore d d := fun h => refBefore_asymm h h

theorem damagedOf_pairwise {s : State} (h : tbsWf s.tbs = true) (t : TableId) (b : Bank) :
    (damagedOf t b s).Pairwise refBefore := by
  have hbank := (bankWf_iff_pairwise _).1 (tableWf_bankOf ((tbsWf_iff s).1 h t) b)
  refine List.pairwise_filterMap.2 (hbank.imp fun {p q} hlt d hd e he => ?_)
  obtain ⟨i, _ | _⟩ := p <;> obtain ⟨j, _ | _⟩ := q <;> simp at hd he
  subst hd he
  exact .inr ⟨rfl, .inr ⟨rfl, hlt⟩⟩

theorem allTables_pairwise : allTables.Pairwise fun t u => (tableIndex t).val < (tableIndex u).val := by decide

/-- R179 looks for the entries without a record in the order that `refBefore` names. -/
theorem unrecorded_pairwise {s : State} (h : tbsWf s.tbs = true) : (unrecorded s).Pairwise refBefore := by
  refine List.Pairwise.filter _ (List.pairwise_flatMap.2
    ⟨fun t _ => ?_, allTables_pairwise.imp fun hlt d hd e he => ?_⟩)
  · refine List.pairwise_append.2
      ⟨damagedOf_pairwise h t .bankA, damagedOf_pairwise h t .bankB, fun d hd e he => ?_⟩
    obtain ⟨hdt, hdb, -⟩ := (mem_damagedOf h t .bankA d).1 hd
    obtain ⟨het, heb, -⟩ := (mem_damagedOf h t .bankB e).1 he
    exact .inr ⟨hdt.trans het.symm, .inl ⟨hdb, heb⟩⟩
  · simp only [List.mem_append, mem_damagedOf h] at hd he
    refine .inl ?_
    rwa [show d.table = _ from hd.elim And.left And.left, show e.table = _ from he.elim And.left And.left]

/-! ### A record leaves the damaged-entry list (R179) -/

/-- The state in which a record has left the list and no other has taken its place. -/
def recordDropped (d : DamagedRef) (s : State) : State :=
  { s with tbs := { s.tbs with damagedList := s.tbs.damagedList.erase d } }

/-- The state in which a record has left the list and the first of the entries without one has joined it. -/
def recordRefilled (d : DamagedRef) (s : State) : State :=
  { s with tbs := { s.tbs with
    damagedList := s.tbs.damagedList.erase d ++ (unrecorded (recordDropped d s)).take 1
    overflow := !((unrecorded (recordDropped d s)).drop 1).isEmpty } }

theorem removeDamaged_cases (d : DamagedRef) (s : State) :
    (d ∉ s.tbs.damagedList ∧ removeDamaged d s = s) ∨
    (d ∈ s.tbs.damagedList ∧ s.tbs.overflow = false ∧ removeDamaged d s = recordDropped d s) ∨
    (d ∈ s.tbs.damagedList ∧ s.tbs.overflow = true ∧ removeDamaged d s = recordRefilled d s) := by
  by_cases hd : d ∈ s.tbs.damagedList
  case neg => exact .inl ⟨hd, by simp [removeDamaged, hd]⟩
  cases hover : s.tbs.overflow with
  | false => exact .inr (.inl ⟨hd, rfl, by simp [removeDamaged, recordDropped, hd, hover]⟩)
  | true =>
    refine .inr (.inr ⟨hd, rfl, ?_⟩)
    have hcontains : s.tbs.damagedList.contains d = true := by simpa using hd
    unfold removeDamaged
    rw [if_pos hcontains]
    dsimp only
    rw [if_pos hover]
    split <;> rename_i hunrecorded <;>
      rw [recordRefilled, show unrecorded (recordDropped d s) = _ from hunrecorded] <;> simp

theorem removeDamaged_frame (d : DamagedRef) (s : State) :
    removeDamaged d s = { s with tbs := { s.tbs with
      damagedList := (removeDamaged d s).tbs.damagedList, overflow := (removeDamaged d s).tbs.overflow } } := by
  obtain ⟨-, heq⟩ | ⟨-, -, heq⟩ | ⟨-, -, heq⟩ := removeDamaged_cases d s <;> rw [heq] <;> rfl

/-- Beside the record that leaves, the list only grows. -/
theorem removeDamaged_list (d : DamagedRef) (s : State) :
    ∃ l, (removeDamaged d s).tbs.damagedList = s.tbs.damagedList.erase d ++ l := by
  obtain ⟨hout, heq⟩ | ⟨-, -, heq⟩ | ⟨-, -, heq⟩ := removeDamaged_cases d s <;> rw [heq]
  · exact ⟨[], by rw [List.append_nil, List.erase_of_not_mem hout]⟩
  · exact ⟨[], by rw [List.append_nil, recordDropped]⟩
  · exact ⟨_, rfl⟩

theorem removeDamaged_entry (d : DamagedRef) (u : TableId) (c : Bank) (j : Nat) (s : State) :
    entryAt u c j (removeDamaged d s) = entryAt u c j s := entryAt_congr (removeDamaged_tables d s) u c j

theorem removeDamaged_wf (d : DamagedRef) {s : State} (h : tbsWf s.tbs = true) :
    tbsWf (removeDamaged d s).tbs = true := by
  rwa [tbsWf, removeDamaged_tables]

/-- The first of a list in R179's order is the one that comes before every other. -/
theorem eq_cons_of_first {l : List DamagedRef} (hl : l.Pairwise refBefore) {e : DamagedRef} (he : e ∈ l)
    (hfirst : ∀ f ∈ l, f ≠ e → refBefore e f) : ∃ rest, l = e :: rest ∧ e ∉ rest := by
  cases l with
  | nil => cases he
  | cons g rest =>
    obtain ⟨hg, -⟩ := List.pairwise_cons.1 hl
    have hge : g = e := by
      by_contra hne
      have hmem : e ∈ rest := (List.mem_cons.1 he).resolve_left (Ne.symm hne)
      exact refBefore_asymm (hg e hmem) (hfirst g (List.mem_cons_self ..) hne)
    subst hge
    exact ⟨rest, rfl, fun hmem => refBefore_irrefl g (hg g hmem)⟩

theorem removeDamaged_recordLeaves (d : DamagedRef) {s : State} (h : tbsWf s.tbs = true) :
    RecordLeaves d s (removeDamaged d s) := by
  have hmem (e : DamagedRef) : e ∈ unrecorded (recordDropped d s) ↔
      WithoutRecord (s.tbs.damagedList.erase d) (removeDamaged d s) e := by
    rw [mem_unrecorded (s := recordDropped d s) h, WithoutRecord, WithoutRecord, removeDamaged_entry]
    rfl
  have hsorted := unrecorded_pairwise (s := recordDropped d s) h
  dsimp only [RecordLeaves]
  simp only [← hmem]
  obtain ⟨hd, heq⟩ | ⟨hd, hover, heq⟩ | ⟨hd, hover, heq⟩ := removeDamaged_cases d s <;> rw [heq]
  · exact ⟨fun _ => ⟨rfl, rfl⟩, fun hin => absurd hin hd, fun hin => absurd hin hd⟩
  · exact ⟨fun hout => absurd hd hout, fun _ _ => ⟨rfl, hover⟩,
      fun _ hset => absurd (hover.symm.trans hset) Bool.false_ne_true⟩
  · refine ⟨fun hout => absurd hd hout, fun _ hclear => absurd (hover.symm.trans hclear) (by decide), fun _ _ =>
      ⟨fun hnone => ?_, fun e he hfirst => ?_⟩⟩ <;> dsimp only [recordRefilled]
    · rw [List.eq_nil_iff_forall_not_mem.2 hnone]
      simp
    · obtain ⟨rest, hrest, hout⟩ := eq_cons_of_first hsorted he hfirst
      rw [hrest]
      refine ⟨rfl, ?_⟩
      cases rest with
      | nil => simp
      | cons f rest => simpa using .inl fun hf => hout (hf ▸ List.mem_cons_self ..)

/-! ### The damaged-entry list stays canonical (R178, R179) -/

/-- A record leaves a list of which every other record is of a DAMAGED entry. -/
theorem removeDamaged_canonical {d : DamagedRef} {s : State} (hwf : tbsWf s.tbs = true)
    (hnodup : s.tbs.damagedList.Nodup) (hlength : s.tbs.damagedList.length ≤ 16)
    (hdamaged : ∀ e ∈ s.tbs.damagedList, e ≠ d → entryAt e.table e.bank e.index s = some .damaged) :
    TablesCanonical (removeDamaged d s) := by
  refine ⟨removeDamaged_wf d hwf, ?_⟩
  suffices hlist : (removeDamaged d s).tbs.damagedList.Nodup ∧ (removeDamaged d s).tbs.damagedList.length ≤ 16 ∧
      ∀ e ∈ (removeDamaged d s).tbs.damagedList, entryAt e.table e.bank e.index s = some .damaged by
    obtain ⟨hnodup', hlength', hdamaged'⟩ := hlist
    exact ⟨hnodup', hlength', fun e he => (removeDamaged_entry d _ _ _ s).trans (hdamaged' e he)⟩
  have herase (e : DamagedRef) (he : e ∈ s.tbs.damagedList.erase d) : entryAt e.table e.bank e.index s = some .damaged :=
    hdamaged e (hnodup.mem_erase_iff.1 he).2 (hnodup.mem_erase_iff.1 he).1
  obtain ⟨hd, heq⟩ | ⟨hd, -, heq⟩ | ⟨hd, -, heq⟩ := removeDamaged_cases d s <;> rw [heq]
  · exact ⟨hnodup, hlength, fun e he => hdamaged e he fun hed => hd (hed ▸ he)⟩
  · exact ⟨hnodup.erase d, (List.length_erase_le ..).trans hlength, herase⟩
  · have hfirst (e : DamagedRef) (he : e ∈ (unrecorded (recordDropped d s)).take 1) :
        WithoutRecord (s.tbs.damagedList.erase d) s e :=
      (mem_unrecorded (s := recordDropped d s) hwf e).1 (List.mem_of_mem_take he)
    dsimp only [recordRefilled]
    have hdisjoint : ∀ a ∈ s.tbs.damagedList.erase d, ∀ b ∈ (unrecorded (recordDropped d s)).take 1, a ≠ b :=
      fun a ha b hb hab => (hfirst b hb).2 (hab ▸ ha)
    refine ⟨List.nodup_append.2 ⟨hnodup.erase d, ?_, hdisjoint⟩, ?_, fun e he => ?_⟩
    · cases unrecorded (recordDropped d s) <;> simp
    · have hpos := List.length_pos_of_mem hd
      rw [List.length_append, List.length_erase_of_mem hd, List.length_take]
      omega
    · exact (List.mem_append.1 he).elim (herase e) fun hin => (hfirst e hin).1

/-- An entry stands in the damaged-entry list, or the list has overflowed (R179). -/
def Listed (d : DamagedRef) (s : State) : Prop := d ∈ s.tbs.damagedList ∨ s.tbs.overflow = true

theorem removeDamaged_listed {d e : DamagedRef} {s : State} (hwf : tbsWf s.tbs = true) (hne : e ≠ d)
    (hdamaged : entryAt e.table e.bank e.index s = some .damaged) (hlisted : Listed e s) :
    Listed e (removeDamaged d s) := by
  obtain ⟨-, heq⟩ | ⟨-, hover, heq⟩ | ⟨-, -, heq⟩ := removeDamaged_cases d s <;> rw [heq]
  · exact hlisted
  · exact .inl ((List.mem_erase_of_ne hne).2 (hlisted.resolve_right (hover ▸ Bool.false_ne_true)))
  · by_cases hin : e ∈ s.tbs.damagedList.erase d
    case pos => exact .inl (List.mem_append_left _ hin)
    have hunrecorded : e ∈ unrecorded (recordDropped d s) :=
      (mem_unrecorded (s := recordDropped d s) hwf e).2 ⟨hdamaged, hin⟩
    dsimp only [Listed, recordRefilled]
    generalize unrecorded (recordDropped d s) = l at hunrecorded
    obtain _ | ⟨f, rest⟩ := l
    · cases hunrecorded
    · obtain rfl | hrest := List.mem_cons.1 hunrecorded
      · exact .inl (by simp)
      · exact .inr (by simpa using List.ne_nil_of_mem hrest)

/-- The records of the list but those of one entry stand for DAMAGED entries still when that entry is written. -/
theorem storeEntry_damaged {s : State} (hcanonical : TablesCanonical s) (t : TableId) (b : Bank) (i : Nat)
    (e : Option Stored) {d : DamagedRef} (hd : d ∈ s.tbs.damagedList) (hne : d ≠ ⟨t, b, i⟩) :
    entryAt d.table d.bank d.index (storeEntry t b i e s) = some .damaged := by
  obtain ⟨-, -, -, hdamaged⟩ := hcanonical
  rw [storeEntry_entry, if_neg fun ⟨ht, hb, hi⟩ => hne (by cases d; simp_all)]
  exact hdamaged d hd

theorem writeStandby_canonical {s : State} (h : TablesCanonical s) (t : TableId) (i : Nat) (img : Option Image) :
    TablesCanonical (writeStandby t i img s) := by
  have ⟨hwf, hnodup, hlength, _⟩ := h
  exact removeDamaged_canonical (storeEntry_wf _ _ _ _ _ hwf) hnodup hlength fun e he hne =>
    storeEntry_damaged h _ _ _ _ he hne

theorem not_mem_damagedList {s : State} (h : TablesCanonical s) {t : TableId} {b : Bank} {i : Nat}
    (hentry : entryAt t b i s ≠ some .damaged) : ⟨t, b, i⟩ ∉ s.tbs.damagedList :=
  have ⟨_, _, _, hdamaged⟩ := h
  fun hin => hentry (hdamaged _ hin)

theorem correctEntry_canonical {s : State} (h : TablesCanonical s) {t : TableId} {b : Bank} {i : Nat}
    (hentry : entryAt t b i s ≠ some .damaged) (img : Image) (syndrome : Word) :
    TablesCanonical (correctEntry t b i img syndrome s) := by
  have ⟨hwf, hnodup, hlength, _⟩ := h
  refine ⟨storeEntry_wf _ _ _ _ _ hwf, hnodup, hlength, fun d hd => ?_⟩
  exact storeEntry_damaged h _ _ _ _ hd fun heq => not_mem_damagedList h hentry (heq ▸ hd)

/-- What finding a double error does to the list: the entry's record joins it, or the list has overflowed (R179). -/
theorem damageEntry_list (t : TableId) (b : Bank) (i : Nat) (s : State) :
    (s.tbs.damagedList.length < 16 ∧ (damageEntry t b i s).tbs.damagedList = s.tbs.damagedList ++ [⟨t, b, i⟩] ∧
      (damageEntry t b i s).tbs.overflow = s.tbs.overflow) ∨
    (16 ≤ s.tbs.damagedList.length ∧ (damageEntry t b i s).tbs.damagedList = s.tbs.damagedList ∧
      (damageEntry t b i s).tbs.overflow = true) := by
  by_cases hfull : s.tbs.damagedList.length < 16
  · refine .inl ⟨hfull, ?_⟩
    simp [damageEntry, addDamaged, Config.damagedListLength, storeEntry, hfull]
  · refine .inr ⟨Nat.not_lt.1 hfull, ?_⟩
    simp [damageEntry, addDamaged, Config.damagedListLength, storeEntry, hfull]

theorem damageEntry_entry (t u : TableId) (b c : Bank) (i j : Nat) (s : State) :
    entryAt u c j (damageEntry t b i s) = if u = t ∧ c = b ∧ j = i then some .damaged else entryAt u c j s := by
  rw [← storeEntry_entry]
  exact entryAt_congr (by simp [damageEntry, addDamaged_tables]) u c j

theorem damageEntry_canonical {s : State} (h : TablesCanonical s) {t : TableId} {b : Bank} {i : Nat}
    (hentry : entryAt t b i s ≠ some .damaged) : TablesCanonical (damageEntry t b i s) := by
  have ⟨hwf, hnodup, hlength, hdamaged⟩ := h
  have hold (d : DamagedRef) (hd : d ∈ s.tbs.damagedList) :
      entryAt d.table d.bank d.index (damageEntry t b i s) = some .damaged := by
    rw [damageEntry_entry]
    split
    · rfl
    · exact hdamaged d hd
  refine ⟨damageEntry_wf t b i s hwf, ?_⟩
  obtain ⟨hroom, hlist, -⟩ | ⟨-, hlist, -⟩ := damageEntry_list t b i s <;> rw [hlist]
  · refine ⟨by simpa using hnodup.concat (not_mem_damagedList h hentry), by simpa using hroom, fun d hd => ?_⟩
    obtain hd | hd := List.mem_append.1 hd
    · exact hold d hd
    · obtain rfl := List.mem_singleton.1 hd
      exact (damageEntry_entry ..).trans (if_pos ⟨rfl, rfl, rfl⟩)
  · exact ⟨hnodup, hlength, hold⟩

/-! ### What a read can do -/

theorem readBank_cases (t : TableId) (b : Bank) (i : Nat) (s : State) :
    (readNotices (entryAt t b i s) = [] ∧ (readBank t b i s).2 = s) ∨
    (∃ img syndrome, entryAt t b i s = some (.good img (.single syndrome)) ∧
      (readBank t b i s).2 = correctEntry t b i img syndrome s) ∨
    ∃ img, entryAt t b i s = some (.good img .double) ∧ (readBank t b i s).2 = damageEntry t b i s := by
  unfold readBank
  rw [show bankRead (bankOf (table t s) b) i = entryAt t b i s from rfl]
  split <;> rename_i h <;> simp [h, readNotices]

theorem readBank_canonical {s : State} (h : TablesCanonical s) (t : TableId) (b : Bank) (i : Nat) :
    TablesCanonical (readBank t b i s).2 := by
  obtain ⟨-, heq⟩ | ⟨img, syndrome, hentry, heq⟩ | ⟨img, hentry, heq⟩ := readBank_cases t b i s <;> rw [heq]
  · exact h
  · exact correctEntry_canonical h (by simp [hentry]) img syndrome
  · exact damageEntry_canonical h (by simp [hentry])

theorem damageEntry_listGrows (t : TableId) (b : Bank) (i : Nat) (s : State) :
    s.tbs.damagedList <+: (damageEntry t b i s).tbs.damagedList ∧
    ∀ d, Listed d s → Listed d (damageEntry t b i s) := by
  obtain ⟨-, hlist, hover⟩ | ⟨-, hlist, hover⟩ := damageEntry_list t b i s <;> simp only [Listed, hlist, hover]
  · exact ⟨List.prefix_append .., fun d hd => hd.imp_left (List.mem_append_left _)⟩
  · exact ⟨List.prefix_rfl, fun d _ => .inr trivial⟩

/-- A read lets the damaged-entry list grow, and no record leaves it. -/
theorem readBank_listGrows (t : TableId) (b : Bank) (i : Nat) (s : State) :
    s.tbs.damagedList <+: (readBank t b i s).2.tbs.damagedList ∧
    ∀ d, Listed d s → Listed d (readBank t b i s).2 := by
  obtain ⟨-, heq⟩ | ⟨img, syndrome, -, heq⟩ | ⟨img, -, heq⟩ := readBank_cases t b i s <;> rw [heq]
  · exact ⟨List.prefix_rfl, fun _ => id⟩
  · exact ⟨List.prefix_rfl, fun _ => id⟩
  · exact damageEntry_listGrows t b i s

/-! ### The reads of a whole bank (R177 to R179) -/

/-- An entry with a single-bit error. -/
def SingleAt (x : TableId) (b : Bank) (i : Nat) (s : State) : Prop :=
  ∃ img syndrome, entryAt x b i s = some (.good img (.single syndrome))

/-- Nothing that the reads of one bank of a table look at or leave behind has changed: its entries, its role, the
last-correction record and its count, the events issued and what the damaged-entry list says of it. -/
structure SweepKept (x : TableId) (b : Bank) (s t : State) : Prop where
  active : (table x t).active = (table x s).active
  entries : ∀ j, entryAt x b j t = entryAt x b j s
  issued : s.issued <+: t.issued
  lastCorrection : t.tbs.lastCorrection = s.tbs.lastCorrection
  corrections : t.tbs.corrections = s.tbs.corrections
  listed : ∀ j, entryAt x b j s = some .damaged → Listed ⟨x, b, j⟩ s → Listed ⟨x, b, j⟩ t

theorem SweepKept.refl (x : TableId) (b : Bank) (s : State) : SweepKept x b s s :=
  ⟨rfl, fun _ => rfl, List.prefix_rfl, rfl, rfl, fun _ _ => id⟩

theorem SweepKept.trans {x : TableId} {b : Bank} {s t u : State} (h : SweepKept x b s t) (k : SweepKept x b t u) :
    SweepKept x b s u where
  active := k.active.trans h.active
  entries j := (k.entries j).trans (h.entries j)
  issued := h.issued.trans k.issued
  lastCorrection := k.lastCorrection.trans h.lastCorrection
  corrections := k.corrections.trans h.corrections
  listed j hdamaged hlisted := k.listed j ((h.entries j).trans hdamaged) (h.listed j hdamaged hlisted)

/-- Between two states the entries of a bank at some indexes are read, in their order, and nothing else that happens
touches what the reads look at. -/
inductive Swept (x : TableId) (b : Bank) : List Nat → State → State → Prop
  | done (s : State) : Swept x b [] s s
  | read {i : Nat} {is : List Nat} {s t : State} : Swept x b is (readBank x b i s).2 t → Swept x b (i :: is) s t
  | kept {is : List Nat} {s u t : State} : SweepKept x b s u → Swept x b is u t → Swept x b is s t

theorem Swept.thenKept {x : TableId} {b : Bank} {is : List Nat} {s t u : State} (h : Swept x b is s t)
    (k : SweepKept x b t u) : Swept x b is s u := by
  induction h with
  | done s => exact .kept k (.done u)
  | read _ ih => exact .read (ih k)
  | kept hkept _ ih => exact .kept hkept (ih k)

theorem Swept.active {x : TableId} {b : Bank} {is : List Nat} {s t : State} (h : Swept x b is s t) :
    (table x t).active = (table x s).active := by
  induction h with
  | done => rfl
  | @read i _ s _ _ ih => exact ih.trans (readBank_sameSwaps x b i s x).1
  | kept hkept _ ih => exact ih.trans hkept.active

theorem Swept.issued {x : TableId} {b : Bank} {is : List Nat} {s t : State} (h : Swept x b is s t) :
    s.issued <+: t.issued := by
  induction h with
  | done => exact List.prefix_rfl
  | @read i _ s _ _ ih =>
    obtain ⟨-, hissued⟩ := readBank_checks x b i s
    exact (hissued ▸ List.prefix_append ..).trans ih
  | kept hkept _ ih => exact hkept.issued.trans ih

theorem readBank_other {x : TableId} {b : Bank} {i j : Nat} (h : j ≠ i) (s : State) :
    entryAt x b j (readBank x b i s).2 = entryAt x b j s := by
  obtain ⟨⟨hothers, -⟩, -⟩ := readBank_checks x b i s
  exact hothers x b j fun ⟨_, _, hj⟩ => h hj

/-- An entry at an index that is not read again stands, and stays listed where it is DAMAGED. -/
theorem Swept.unread {x : TableId} {b : Bank} {is : List Nat} {s t : State} (h : Swept x b is s t) {j : Nat}
    (hj : j ∉ is) : entryAt x b j t = entryAt x b j s ∧
      (entryAt x b j s = some .damaged → Listed ⟨x, b, j⟩ s → Listed ⟨x, b, j⟩ t) := by
  induction h with
  | done => exact ⟨rfl, fun _ => id⟩
  | @read i is s _ _ ih =>
    obtain ⟨hji, hjis⟩ := List.ne_and_not_mem_of_not_mem_cons hj
    obtain ⟨hentry, hlisted⟩ := ih hjis
    rw [readBank_other hji] at hentry hlisted
    exact ⟨hentry, fun hdamaged hin => hlisted hdamaged ((readBank_listGrows x b i s).2 _ hin)⟩
  | kept hkept _ ih =>
    obtain ⟨hentry, hlisted⟩ := ih hj
    rw [hkept.entries j] at hentry hlisted
    exact ⟨hentry, fun hdamaged hin => hlisted hdamaged (hkept.listed j hdamaged hin)⟩

theorem readBank_uncorrected {x : TableId} {b : Bank} {i : Nat} {s : State} (h : ¬SingleAt x b i s) :
    (readBank x b i s).2.tbs.lastCorrection = s.tbs.lastCorrection ∧
    (readBank x b i s).2.tbs.corrections = s.tbs.corrections := by
  obtain ⟨-, heq⟩ | ⟨img, syndrome, hentry, -⟩ | ⟨img, -, heq⟩ := readBank_cases x b i s
  · rw [heq]
    exact ⟨rfl, rfl⟩
  · exact absurd ⟨img, syndrome, hentry⟩ h
  · rw [heq, damageEntry, latch_tbs, addDamaged]
    split <;> exact ⟨rfl, rfl⟩

theorem readBank_corrects {x : TableId} {b : Bank} {i : Nat} {s : State} {img : Image} {syndrome : Word}
    (h : entryAt x b i s = some (.good img (.single syndrome))) :
    entryAt x b i (readBank x b i s).2 = some (.good img .clean) ∧
    .latchNotice .memoryCorrected ∈ (readBank x b i s).2.issued ∧
    (readBank x b i s).2.tbs.lastCorrection =
      some { table := x, bank := b, role := roleIn x b s, index := i, syndrome := syndrome } ∧
    (readBank x b i s).2.tbs.corrections = min (s.tbs.corrections + 1) 65535 := by
  obtain ⟨⟨-, -, hsingle, -⟩, hissued⟩ := readBank_checks x b i s
  obtain ⟨hentry, htbs⟩ := hsingle img syndrome h
  exact ⟨hentry, by simp [hissued, h, readNotices], by rw [htbs], by rw [htbs]⟩

theorem readBank_damages {x : TableId} {b : Bank} {i : Nat} {s : State} {img : Image}
    (h : entryAt x b i s = some (.good img .double)) :
    entryAt x b i (readBank x b i s).2 = some .damaged ∧
    .latchNotice .tableDamaged ∈ (readBank x b i s).2.issued ∧ Listed ⟨x, b, i⟩ (readBank x b i s).2 := by
  obtain ⟨⟨-, -, -, hdouble, -⟩, hissued⟩ := readBank_checks x b i s
  obtain ⟨hentry, hroom, hfull⟩ := hdouble img h
  refine ⟨hentry, by simp [hissued, h, readNotices], ?_⟩
  obtain hlt | hle := Nat.lt_or_ge s.tbs.damagedList.length 16
  · exact .inl (by rw [hroom hlt]; simp)
  · exact .inr (by rw [hfull hle])

/-- The count of corrections after the reads of the later indexes, from its value before the read of the first (R177). -/
theorem corrections_cons {single : Nat → Prop} {i : Nat} {is : List Nat} {before first after : Nat} (hout : i ∉ is)
    (hfirst : single i → first = min (before + 1) 65535) (hother : ¬single i → first = before)
    (hnone : (∀ j ∈ is, ¬single j) → after = first)
    (hrest : ∀ found : List Nat, found.Nodup → (∀ j, j ∈ found ↔ j ∈ is ∧ single j) → found ≠ [] →
      after = min (first + found.length) 65535) {found : List Nat} (hnodup : found.Nodup)
    (hfound : ∀ j, j ∈ found ↔ j ∈ i :: is ∧ single j) (hne : found ≠ []) :
    after = min (before + found.length) 65535 := by
  by_cases hi : single i
  · have hmem : i ∈ found := (hfound i).2 ⟨List.mem_cons_self .., hi⟩
    have hpos := List.length_pos_of_mem hmem
    have hlength := List.length_erase_of_mem hmem
    have hlater (j : Nat) : j ∈ found.erase i ↔ j ∈ is ∧ single j := by
      rw [hnodup.mem_erase_iff, hfound, List.mem_cons]
      exact ⟨fun ⟨hji, hj, hsingle⟩ => ⟨hj.resolve_left hji, hsingle⟩,
        fun ⟨hj, hsingle⟩ => ⟨fun hji => hout (hji ▸ hj), .inr hj, hsingle⟩⟩
    have hfirst := hfirst hi
    by_cases hlast : found.erase i = []
    · have hafter := hnone fun j hj hsingle => List.not_mem_nil (hlast ▸ (hlater j).2 ⟨hj, hsingle⟩)
      rw [hlast, List.length_nil] at hlength
      omega
    · have hafter := hrest _ (hnodup.erase i) hlater hlast
      omega
  · have hlater (j : Nat) : j ∈ found ↔ j ∈ is ∧ single j := by
      rw [hfound, List.mem_cons]
      exact ⟨fun ⟨hj, hsingle⟩ => ⟨hj.resolve_left fun hji => hi (hji ▸ hsingle), hsingle⟩,
        fun ⟨hj, hsingle⟩ => ⟨.inr hj, hsingle⟩⟩
    rw [hrest found hnodup hlater hne, hother hi]

/-- What the checks of the later indexes and the read of the first say of all of them. -/
theorem sweepChecks_cons {x : TableId} {b : Bank} {i : Nat} {is : List Nat} {s t : State} (hbelow : ∀ j ∈ is, i < j)
    (hswept : Swept x b is (readBank x b i s).2 t) (hrest : SweepChecks x b is (readBank x b i s).2 t) :
    SweepChecks x b (i :: is) s t := by
  have hout : i ∉ is := fun hin => Nat.lt_irrefl i (hbelow i hin)
  have hissued : ∀ e ∈ (readBank x b i s).2.issued, e ∈ t.issued := hswept.issued.subset
  have hrole : roleIn x b (readBank x b i s).2 = roleIn x b s := by
    rw [roleIn, roleIn, (readBank_sameSwaps x b i s x).1]
  have hother (j : Nat) (hj : j ∈ is) : entryAt x b j (readBank x b i s).2 = entryAt x b j s :=
    readBank_other (Nat.ne_of_gt (hbelow j hj)) s
  have hlater (j : Nat) (hj : j ∈ is) : SingleAt x b j (readBank x b i s).2 ↔ SingleAt x b j s := by
    rw [SingleAt, SingleAt, hother j hj]
  obtain ⟨hentry, hlisted⟩ := hswept.unread hout
  obtain ⟨hnone, hsingle, hcount, hdouble⟩ := hrest
  have hnone (h : ∀ j ∈ is, ¬SingleAt x b j s) := hnone fun j hj hat => h j hj ((hlater j hj).1 hat)
  refine ⟨fun h => ?uncorrected, fun j hj img syndrome hat => ?corrected, fun found hnodup hfound => ?counted,
    fun j hj img hat => ?damaged⟩
  case uncorrected =>
    obtain ⟨hi, his⟩ := List.forall_mem_cons.1 h
    obtain ⟨hlast, hcorrections⟩ := hnone his
    obtain ⟨hlast', hcorrections'⟩ := readBank_uncorrected hi
    exact ⟨hlast.trans hlast', hcorrections.trans hcorrections'⟩
  case corrected =>
    obtain rfl | hj := List.mem_cons.1 hj
    · obtain ⟨hclean, hnotice, hlast, -⟩ := readBank_corrects hat
      refine ⟨hentry.trans hclean, hissued _ hnotice, fun h => ?_⟩
      exact (hnone fun k hk => h k (List.mem_cons_of_mem _ hk) (hbelow k hk)).1.trans hlast
    · obtain ⟨hclean, hnotice, hlast⟩ := hsingle j hj img syndrome ((hother j hj).trans hat)
      refine ⟨hclean, hnotice, fun h => hrole ▸ hlast fun k hk hlt hat' => ?_⟩
      exact h k (List.mem_cons_of_mem _ hk) hlt ((hlater k hk).1 hat')
  case counted =>
    refine corrections_cons (single := fun j => SingleAt x b j s) hout ?_ (fun hi => (readBank_uncorrected hi).2)
      (fun h => (hnone h).2) (fun found hnodup hfound => hcount found hnodup fun j => ?_) hnodup hfound
    · rintro ⟨img, syndrome, hat⟩
      obtain ⟨-, -, -, hcorrections⟩ := readBank_corrects hat
      exact hcorrections
    · rw [hfound]
      exact and_congr_right fun hj => (hlater j hj).symm
  case damaged =>
    obtain rfl | hj := List.mem_cons.1 hj
    · obtain ⟨hdamaged, hnotice, hin⟩ := readBank_damages hat
      exact ⟨hentry.trans hdamaged, hissued _ hnotice, hlisted hdamaged hin⟩
    · exact hdouble j hj img ((hother j hj).trans hat)

theorem Swept.checks {x : TableId} {b : Bank} {is : List Nat} {s t : State} (h : Swept x b is s t)
    (hsorted : is.Pairwise (· < ·)) : SweepChecks x b is s t := by
  induction h with
  | done => exact ⟨fun _ => ⟨rfl, rfl⟩, by simp, fun found _ hfound hne =>
      absurd (List.eq_nil_iff_forall_not_mem.2 fun j hj => List.not_mem_nil ((hfound j).1 hj).1) hne, by simp⟩
  | read hswept ih =>
    obtain ⟨hbelow, hsorted⟩ := List.pairwise_cons.1 hsorted
    exact sweepChecks_cons hbelow hswept (ih hsorted)
  | kept hkept _ ih =>
    have hchecks := ih hsorted
    simpa only [SweepChecks, roleIn, hkept.entries, hkept.active, hkept.lastCorrection, hkept.corrections] using hchecks

/-! ### The validation of a standby bank (R175) -/

theorem readAll_results (t : TableId) (b : Bank) (is : List Nat) (s : State) :
    (readAll t b is s).1 = is.map fun i => (i, resultOf (entryAt t b i s)) := by
  induction is generalizing s with
  | nil => rfl
  | cons i rest ih => simp [readAll, ih, readBank_result, readBank_keeps]

theorem readAll_swept (t : TableId) (b : Bank) (is : List Nat) (s : State) : Swept t b is s (readAll t b is s).2 := by
  induction is generalizing s with
  | nil => exact .done s
  | cons i rest ih => exact .read (ih _)

theorem readAll_store (t : TableId) (b : Bank) (is : List Nat) (s : State) :
    StoreOnly s (readAll t b is s).2 ∧ SameSwaps s (readAll t b is s).2 ∧ EntriesReadAlike s (readAll t b is s).2 := by
  induction is generalizing s with
  | nil => exact ⟨StoreOnly.refl s, SameSwaps.refl s, EntriesReadAlike.refl s⟩
  | cons i rest ih =>
    obtain ⟨hstore, hswaps, halike⟩ := ih (readBank t b i s).2
    exact ⟨(readBank_storeOnly t b i s).trans hstore, (readBank_sameSwaps t b i s).trans hswaps,
      EntriesReadAlike.trans (fun u c j => readBank_keeps t u b c i j s) halike⟩

/-- A present TRIM stands at an index of the BALLAST. -/
def TrimAt (reads : Nat → ReadResult) (i : Nat) : Prop :=
  ∃ img, reads i = .good img ∧ (ballastEntry img).present = true ∧ (ballastEntry img).trim = true

/-- A SAMPLE entry of a quantity stands at an index of the SLOT MAP. -/
def SampleAt (reads : Nat → ReadResult) (i : Nat) (kind : SampleKind) (inst : Nat) : Prop :=
  ∃ img mult offset hold, reads i = .good img ∧ slotRole img = .sample kind inst mult offset hold

/-- What validation remembers before an index is what stands at the entries below it. -/
def SeenBelow (t : TableId) (reads : Nat → ReadResult) (i : Nat) (seen : Seen) : Prop :=
  (t = .ballast → (seen.trim = true ↔ ∃ j, 1 ≤ j ∧ j < i ∧ TrimAt reads j)) ∧
  (t = .slotMap → ∀ kind inst, (kind, inst) ∈ seen.samples ↔ ∃ j, 1 ≤ j ∧ j < i ∧ SampleAt reads j kind inst)

theorem seenBelow_first (t : TableId) (reads : Nat → ReadResult) :
    SeenBelow t reads (tableBounds t).1 { trim := false, samples := [] } := by
  have hlow : (tableBounds t).1 ≤ 1 := by cases t <;> decide
  refine ⟨fun _ => ?_, fun _ kind inst => ?_⟩
  · exact ⟨fun h => absurd h Bool.false_ne_true, fun ⟨j, h1, hj, _⟩ => absurd hj (by omega)⟩
  · exact ⟨fun h => absurd h List.not_mem_nil, fun ⟨j, h1, hj, _⟩ => absurd hj (by omega)⟩

theorem exists_lt_succ_iff {P : Nat → Prop} {i : Nat} (hi : 1 ≤ i) :
    (∃ j, 1 ≤ j ∧ j < i + 1 ∧ P j) ↔ P i ∨ ∃ j, 1 ≤ j ∧ j < i ∧ P j := by
  constructor
  · rintro ⟨j, h1, hlt, hj⟩
    obtain rfl | hlt := Nat.eq_or_lt_of_le (Nat.le_of_lt_succ hlt)
    · exact .inl hj
    · exact .inr ⟨j, h1, hlt, hj⟩
  · rintro (hj | ⟨j, h1, hlt, hj⟩)
    · exact ⟨i, hi, Nat.lt_succ_self i, hj⟩
    · exact ⟨j, h1, Nat.lt_succ_of_lt hlt, hj⟩

theorem trimAt_good {reads : Nat → ReadResult} {i : Nat} {img : Image} (h : reads i = .good img) :
    TrimAt reads i ↔ (ballastEntry img).present = true ∧ (ballastEntry img).trim = true := by
  simp [TrimAt, h]

theorem sampleAt_good {reads : Nat → ReadResult} {i : Nat} {img : Image} (h : reads i = .good img) (kind : SampleKind)
    (inst : Nat) :
    SampleAt reads i kind inst ↔ ∃ mult offset hold, slotRole img = .sample kind inst mult offset hold := by
  simp [SampleAt, h]

theorem not_at_of_not_good {reads : Nat → ReadResult} {i : Nat} (h : ∀ img, reads i ≠ .good img) :
    ¬TrimAt reads i ∧ ∀ kind inst, ¬SampleAt reads i kind inst :=
  ⟨fun ⟨img, hgood, _⟩ => h img hgood, fun _ _ ⟨img, _, _, _, hgood, _⟩ => h img hgood⟩

theorem seenBelow_remember {t : TableId} {reads : Nat → ReadResult} {i : Nat} {seen : Seen} {img : Image}
    (hlow : (tableBounds t).1 ≤ i) (h : SeenBelow t reads i seen) (hgood : reads i = .good img) :
    SeenBelow t reads (i + 1) (remember t i img seen) := by
  obtain ⟨htrim, hsamples⟩ := h
  refine ⟨?trim, ?samples⟩
  case trim =>
    rintro rfl
    rw [exists_lt_succ_iff hlow, ← htrim rfl, trimAt_good hgood]
    simp [remember, or_comm]
  case samples =>
    rintro rfl kind inst
    have hbelow := hsamples rfl kind inst
    by_cases hi : i = 0
    · subst hi
      have hnone : ¬∃ j, 1 ≤ j ∧ j < 0 + 1 ∧ SampleAt reads j kind inst := fun ⟨j, h1, hj, _⟩ => by omega
      simp only [remember, if_true, hbelow, hnone, iff_false]
      exact fun ⟨j, h1, hj, _⟩ => by omega
    · rw [exists_lt_succ_iff (by omega), sampleAt_good hgood, ← hbelow]
      simp only [remember, if_neg hi]
      cases slotRole img <;> simp [eq_comm]

theorem seenBelow_pass {t : TableId} {reads : Nat → ReadResult} {i : Nat} {seen : Seen}
    (hlow : (tableBounds t).1 ≤ i) (h : SeenBelow t reads i seen) (hgood : ∀ img, reads i ≠ .good img) :
    SeenBelow t reads (i + 1) seen := by
  obtain ⟨htrim, hsamples⟩ := h
  obtain ⟨hnotTrim, hnotSample⟩ := not_at_of_not_good hgood
  refine ⟨?trim, ?samples⟩
  case trim =>
    rintro rfl
    rw [exists_lt_succ_iff hlow, htrim rfl]
    simp [hnotTrim]
  case samples =>
    rintro rfl kind inst
    rw [hsamples rfl kind inst]
    obtain rfl | hi := Nat.eq_zero_or_pos i
    · exact ⟨fun ⟨j, h1, hj, _⟩ => by omega, fun ⟨j, h1, hj, _⟩ => by omega⟩
    · rw [exists_lt_succ_iff hi]
      simp [hnotSample]

/-- What validation remembers once it has read an entry. -/
def seenAfter (t : TableId) (i : Nat) (r : ReadResult) (seen : Seen) : Seen :=
  match r with
  | .good img => remember t i img seen
  | _ => seen

theorem seenBelow_next {t : TableId} {reads : Nat → ReadResult} {i : Nat} {seen : Seen}
    (hlow : (tableBounds t).1 ≤ i) (h : SeenBelow t reads i seen) :
    SeenBelow t reads (i + 1) (seenAfter t i (reads i) seen) := by
  cases hread : reads i with
  | good img => exact seenBelow_remember hlow h hread
  | empty => exact seenBelow_pass hlow h (by simp [hread])
  | damaged => exact seenBelow_pass hlow h (by simp [hread])

theorem firstFailure_cons (t : TableId) (i : Nat) (r : ReadResult) (rest : List (Nat × ReadResult)) (seen : Seen) :
    firstFailure t ((i, r) :: rest) seen =
      if entryFails t i r seen then some i else firstFailure t rest (seenAfter t i r seen) := by
  cases r <;> rfl

/-- Check 4 of R175 speaks of the entries below the one that is checked. -/
theorem crossFails_iff {t : TableId} {reads : Nat → ReadResult} {i : Nat} {seen : Seen} {img : Image}
    (h : SeenBelow t reads i seen) (hgood : reads i = .good img) :
    crossFails t i img seen = true ↔
      (t = .ballast ∧ TrimAt reads i ∧ ∃ j, 1 ≤ j ∧ j < i ∧ TrimAt reads j) ∨
      (t = .slotMap ∧ ∃ kind inst, SampleAt reads i kind inst ∧ ∃ j, 1 ≤ j ∧ j < i ∧ SampleAt reads j kind inst) := by
  obtain ⟨htrim, hsamples⟩ := h
  cases t
  case ballast =>
    rw [← htrim rfl, trimAt_good hgood]
    simp only [crossFails, Bool.and_eq_true]
    tauto
  case slotMap =>
    simp only [← hsamples rfl, sampleAt_good hgood]
    by_cases hi : i = 0
    · have hnone (kind : SampleKind) (inst : Nat) : (kind, inst) ∉ seen.samples := fun hin => by
        obtain ⟨j, h1, hj, -⟩ := (hsamples rfl kind inst).1 hin
        omega
      simp [crossFails, hi, hnone]
    · cases hrole : slotRole img <;> simp [crossFails, hi, hrole]
  all_goals simp [crossFails]

theorem entryFails_iff {t : TableId} {reads : Nat → ReadResult} {i : Nat} {seen : Seen}
    (h : SeenBelow t reads i seen) : entryFails t i (reads i) seen = true ↔ FailsCheck t reads i := by
  cases hread : reads i with
  | damaged => simp [entryFails, FailsCheck, hread]
  | empty => simp [entryFails, FailsCheck, hread, mustBeWritten]
  | good img =>
    have hcross := crossFails_iff h hread
    simp only [TrimAt, SampleAt] at hcross
    simp [entryFails, FailsCheck, hread, hcross]

/-- The first index of a list at which a property holds, or none. -/
def IsFirst (P : Nat → Prop) (is : List Nat) (first : Option Nat) : Prop :=
  match first with
  | none => ∀ i ∈ is, ¬P i
  | some i => i ∈ is ∧ P i ∧ ∀ j ∈ is, j < i → ¬P j

theorem IsFirst.head {P : Nat → Prop} {i : Nat} {is : List Nat} (hbelow : ∀ j ∈ is, i < j) (hi : P i) :
    IsFirst P (i :: is) (some i) := by
  refine ⟨List.mem_cons_self .., hi, List.forall_mem_cons.2 ⟨fun hlt => ?_, fun j hj hlt => ?_⟩⟩
  · exact absurd hlt (Nat.lt_irrefl i)
  · exact absurd hlt (Nat.lt_asymm (hbelow j hj))

theorem IsFirst.cons {P : Nat → Prop} {i : Nat} {is : List Nat} {first : Option Nat} (hi : ¬P i)
    (h : IsFirst P is first) : IsFirst P (i :: is) first := by
  cases first with
  | none => exact List.forall_mem_cons.2 ⟨hi, h⟩
  | some k =>
    obtain ⟨hk, hPk, hleast⟩ := h
    exact ⟨List.mem_cons_of_mem _ hk, hPk, List.forall_mem_cons.2 ⟨fun _ => hi, hleast⟩⟩

theorem IsFirst.unique {P : Nat → Prop} {is : List Nat} {a b : Option Nat} (h : IsFirst P is a) (k : IsFirst P is b) :
    a = b := by
  match a, b, h, k with
  | none, none, _, _ => rfl
  | none, some j, h, ⟨hj, hPj, _⟩ => exact absurd hPj (h j hj)
  | some i, none, ⟨hi, hPi, _⟩, k => exact absurd hPi (k i hi)
  | some i, some j, ⟨hi, hPi, hleast⟩, ⟨hj, hPj, hleast'⟩ =>
    have hle : ¬j < i := fun hlt => hleast j hj hlt hPj
    have hge : ¬i < j := fun hlt => hleast' i hi hlt hPi
    rw [show i = j by omega]

theorem firstFailure_isFirst {t : TableId} {reads : Nat → ReadResult} {i n : Nat} {seen : Seen}
    (hlow : (tableBounds t).1 ≤ i) (hseen : SeenBelow t reads i seen) :
    IsFirst (FailsCheck t reads) (List.range' i n)
      (firstFailure t ((List.range' i n).map fun j => (j, reads j)) seen) := by
  induction n generalizing i seen with
  | zero => exact fun j hj => absurd hj List.not_mem_nil
  | succ n ih =>
    rw [List.range'_succ, List.map_cons, firstFailure_cons]
    by_cases hfails : FailsCheck t reads i
    · rw [if_pos ((entryFails_iff hseen).2 hfails)]
      exact IsFirst.head (fun j hj => (List.mem_range'_1.1 hj).1) hfails
    · rw [if_neg (mt (entryFails_iff hseen).1 hfails)]
      exact (ih (Nat.le_succ_of_le hlow) (seenBelow_next hlow hseen)).cons hfails

theorem tableIndexes_eq_range' (t : TableId) :
    tableIndexes t = List.range' (tableBounds t).1 ((tableBounds t).2 + 1 - (tableBounds t).1) := by
  rw [tableIndexes, List.range_eq_range', List.drop_range']
  simp

theorem tableIndexes_sorted (t : TableId) : (tableIndexes t).Pairwise (· < ·) := by
  rw [tableIndexes_eq_range']
  exact List.pairwise_lt_range'

/-- The validation finds the first index that fails a check of R175. -/
theorem validate_isFirst (t : TableId) (s : State) :
    IsFirst (FailsCheck t fun i => standbyReads t i s) (tableIndexes t) (validate t s).1 := by
  have hresults := readAll_results t (otherBank (table t s).active) (tableIndexes t) s
  have hfirst : (validate t s).1 = firstFailure t ((tableIndexes t).map fun i => (i, standbyReads t i s))
      { trim := false, samples := [] } := congrArg (firstFailure t · _) hresults
  rw [hfirst, tableIndexes_eq_range']
  exact firstFailure_isFirst (Nat.le_refl _) (seenBelow_first t _)

/-! ### A write of the standby bank (R172) -/

theorem otherBank_ne (b : Bank) : otherBank b ≠ b := by cases b <;> decide

theorem marksStand_of_sameSwaps {s t : State} (h : SameSwaps s t) (y : TableId) : MarksStand y s t := by
  obtain ⟨hactive, hpending, hgeneration, hhistory⟩ := h y
  dsimp only [MarksStand]
  rw [← hactive, ← hpending, ← hgeneration, ← hhistory]

theorem writeStandby_frame (t : TableId) (i : Nat) (img : Option Image) (s : State) :
    writeStandby t i img s = { s with tbs := { s.tbs with
      tables := (writeStandby t i img s).tbs.tables
      damagedList := (writeStandby t i img s).tbs.damagedList
      overflow := (writeStandby t i img s).tbs.overflow } } := by
  rw [writeStandby, removeDamaged_frame]
  rfl

theorem writeStandby_entry (t u : TableId) (c : Bank) (i j : Nat) (img : Option Image) (s : State) :
    entryAt u c j (writeStandby t i img s) =
      if u = t ∧ c = otherBank (table t s).active ∧ j = i then img.map fun x => .good x .clean else entryAt u c j s :=
  (removeDamaged_entry ..).trans (storeEntry_entry ..)

theorem cleanOf_ne_damaged (img : Option Image) : (img.map fun x => Stored.good x .clean) ≠ some .damaged := by
  cases img <;> simp

theorem writeStandby_recordLeaves {s : State} (h : TablesCanonical s) (t : TableId) (i : Nat) (img : Option Image) :
    RecordLeaves ⟨t, otherBank (table t s).active, i⟩ s (writeStandby t i img s) ∧
    ⟨t, otherBank (table t s).active, i⟩ ∉ (writeStandby t i img s).tbs.damagedList := by
  have ⟨hwf, _⟩ := h
  refine ⟨removeDamaged_recordLeaves _ (storeEntry_wf _ _ _ _ _ hwf),
    not_mem_damagedList (writeStandby_canonical h t i img) ?_⟩
  rw [writeStandby_entry, if_pos ⟨rfl, rfl, rfl⟩]
  exact cleanOf_ne_damaged img

/-! ### COPY-ACTIVE: what it writes over (R173, R178) -/

theorem findDouble_cases (t : TableId) (i : Nat) (s : State) :
    ((∀ img, entryAt t (otherBank (table t s).active) i s ≠ some (.good img .double)) ∧ findDouble t i s = s) ∨
    ∃ img, entryAt t (otherBank (table t s).active) i s = some (.good img .double) ∧
      findDouble t i s = damageEntry t (otherBank (table t s).active) i s := by
  unfold findDouble
  dsimp only
  split
  · rename_i img h
    exact .inr ⟨img, h, rfl⟩
  · rename_i h
    exact .inl ⟨h, rfl⟩

theorem findDouble_canonical {s : State} (h : TablesCanonical s) (t : TableId) (i : Nat) :
    TablesCanonical (findDouble t i s) := by
  obtain ⟨-, heq⟩ | ⟨img, hentry, heq⟩ := findDouble_cases t i s <;> rw [heq]
  · exact h
  · exact damageEntry_canonical h (by simp [hentry])

theorem copyOver_canonical {s : State} (h : TablesCanonical s) (t : TableId) (i : Nat) (img : Option Image) :
    TablesCanonical (copyOver t i img s) := writeStandby_canonical (findDouble_canonical h t i) t i img

theorem copyOver_notice {t : TableId} {i : Nat} {img : Image} {s : State}
    (h : entryAt t (otherBank (table t s).active) i s = some (.good img .double)) (copy : Option Image) :
    .latchNotice .tableDamaged ∈ (copyOver t i copy s).issued := by
  obtain ⟨hnot, -⟩ | ⟨-, -, heq⟩ := findDouble_cases t i s
  · exact absurd h (hnot img)
  · obtain ⟨-, notices, -, hissued⟩ := writeStandby_storeOnly t i copy (findDouble t i s)
    rw [copyOver, hissued, heq]
    simp [damageEntry]

theorem storeEntry_sweepKept {b c : Bank} (h : c ≠ b) (x : TableId) (i : Nat) (e : Option Stored) (s : State) :
    SweepKept x b s (storeEntry x c i e s) where
  active := (storeEntry_fields x x c i e s).1
  entries j := by rw [storeEntry_entry, if_neg fun ⟨_, hb, _⟩ => h hb.symm]
  issued := List.prefix_rfl
  lastCorrection := rfl
  corrections := rfl
  listed _ _ := id

theorem damageEntry_sweepKept {b c : Bank} (h : c ≠ b) (x : TableId) (i : Nat) (s : State) :
    SweepKept x b s (damageEntry x c i s) where
  active := (damageEntry_sameSwaps x c i s x).1
  entries j := by rw [damageEntry_entry, if_neg fun ⟨_, hb, _⟩ => h hb.symm]
  issued := List.prefix_append ..
  lastCorrection := by rw [damageEntry, latch_tbs, addDamaged]; split <;> rfl
  corrections := by rw [damageEntry, latch_tbs, addDamaged]; split <;> rfl
  listed _ _ := (damageEntry_listGrows x c i s).2 _

theorem removeDamaged_sweepKept {d : DamagedRef} {b : Bank} (h : d.bank ≠ b) (x : TableId) {s : State}
    (hwf : tbsWf s.tbs = true) : SweepKept x b s (removeDamaged d s) where
  active := by rw [table_congr (removeDamaged_tables d s)]
  entries j := removeDamaged_entry d x b j s
  issued := by rw [removeDamaged_frame]
  lastCorrection := by rw [removeDamaged_frame]
  corrections := by rw [removeDamaged_frame]
  listed j hdamaged := removeDamaged_listed hwf (fun heq => h (heq ▸ rfl)) hdamaged

/-- Writing over a standby entry leaves alone what the reads of the active bank look at. -/
theorem copyOver_sweepKept {s : State} (h : TablesCanonical s) (x : TableId) (i : Nat) (img : Option Image) :
    SweepKept x (table x s).active s (copyOver x i img s) := by
  have hfound : SweepKept x (table x s).active s (findDouble x i s) := by
    obtain ⟨-, heq⟩ | ⟨-, -, heq⟩ := findDouble_cases x i s <;> rw [heq]
    · exact SweepKept.refl ..
    · exact damageEntry_sweepKept (otherBank_ne _) x i s
  have hne : otherBank (table x (findDouble x i s)).active ≠ (table x s).active := hfound.active ▸ otherBank_ne _
  have ⟨hwf, _⟩ := h
  have hwritten : tbsWf (storeEntry x (otherBank (table x (findDouble x i s)).active) i (img.map fun y => .good y .clean)
      (findDouble x i s)).tbs = true := storeEntry_wf _ _ _ _ _ (findDouble_wf x i s hwf)
  exact hfound.trans ((storeEntry_sweepKept hne x i _ _).trans (removeDamaged_sweepKept hne x hwritten))

/-- Of the records but the one that leaves, none leaves and none changes its place. -/
theorem removeDamaged_records {keep : DamagedRef → Bool} {d : DamagedRef} (h : keep d = false) (s : State) :
    s.tbs.damagedList.filter keep <+: (removeDamaged d s).tbs.damagedList.filter keep := by
  obtain ⟨l, hlist⟩ := removeDamaged_list d s
  have hout : d ∉ s.tbs.damagedList.filter keep := fun hin => by simp [h] at hin
  rw [hlist, List.filter_append, ← List.erase_filter, List.erase_of_not_mem hout]
  exact List.prefix_append ..

theorem writeStandby_records {keep : DamagedRef → Bool} {t : TableId} {i : Nat} {s : State}
    (h : keep ⟨t, otherBank (table t s).active, i⟩ = false) (img : Option Image) :
    s.tbs.damagedList.filter keep <+: (writeStandby t i img s).tbs.damagedList.filter keep :=
  removeDamaged_records h (storeEntry t (otherBank (table t s).active) i (img.map fun x => .good x .clean) s)

theorem copyOver_records {keep : DamagedRef → Bool} {x : TableId} {i : Nat} {s : State}
    (h : keep ⟨x, otherBank (table x s).active, i⟩ = false) (img : Option Image) :
    s.tbs.damagedList.filter keep <+: (copyOver x i img s).tbs.damagedList.filter keep := by
  have hfound : s.tbs.damagedList <+: (findDouble x i s).tbs.damagedList := by
    obtain ⟨-, heq⟩ | ⟨-, -, heq⟩ := findDouble_cases x i s <;> rw [heq]
    exact (damageEntry_listGrows x _ i s).1
  rw [← (findDouble_sameSwaps x i s x).1] at h
  exact (hfound.filter keep).trans (writeStandby_records h img)

/-! ### COPY-ACTIVE: one entry after the other (R173) -/

/-- The image that COPY-ACTIVE writes for what it has read. -/
def copyImage (r : ReadResult) : Option Image :=
  match r with
  | .good img => some img
  | .empty => none
  | .damaged => none

/-- The entry that COPY-ACTIVE leaves in the standby bank for what it has read. -/
def copied (r : ReadResult) : Option Stored := (copyImage r).map fun img => .good img .clean

/-- COPY-ACTIVE's work on the entry at an index: a read of the active bank and a write of the standby bank. -/
def copyStep (x : TableId) (i : Nat) (s : State) : State :=
  copyOver x i (copyImage (activeReads x i s)) (readActive x i s).2

theorem copyEntry_eq (x : TableId) (l : List Nat) (s : State) (i : Nat) :
    copyEntry x (l, s) i = (l ++ [i].filter fun i => activeReads x i s = .damaged, copyStep x i s) := by
  have hread := readActive_result x i s
  unfold copyEntry copyStep
  rw [← hread]
  split <;> rename_i h <;> simp [← hread, h, copyImage]

theorem copyStep_storeOnly (x : TableId) (i : Nat) (s : State) : StoreOnly s (copyStep x i s) :=
  (readActive_storeOnly x i s).trans (copyOver_storeOnly x i _ _)

theorem copyStep_sameSwaps (x : TableId) (i : Nat) (s : State) : SameSwaps s (copyStep x i s) :=
  (readActive_sameSwaps x i s).trans (copyOver_sameSwaps x i _ _)

theorem copyStep_canonical {s : State} (h : TablesCanonical s) (x : TableId) (i : Nat) :
    TablesCanonical (copyStep x i s) := copyOver_canonical (readBank_canonical h x _ i) x i _

theorem readActive_other {x u : TableId} {c : Bank} {i j : Nat} {s : State}
    (h : ¬(u = x ∧ c = (table x s).active ∧ j = i)) : entryAt u c j (readActive x i s).2 = entryAt u c j s := by
  obtain ⟨⟨hothers, -⟩, -⟩ := readBank_checks x (table x s).active i s
  exact hothers u c j h

theorem copyStep_entry (x u : TableId) (c : Bank) (i j : Nat) (s : State) :
    entryAt u c j (copyStep x i s) = if u = x ∧ c = otherBank (table x s).active ∧ j = i then copied (activeReads x i s)
      else entryAt u c j (readActive x i s).2 := by
  rw [copyStep, copyOver_entry, bankOfRole, (readActive_sameSwaps x i s x).1]
  rfl

theorem copyStep_activeReads (x : TableId) (i j : Nat) (s : State) :
    activeReads x j (copyStep x i s) = activeReads x j s := by
  rw [activeReads, activeReads, (copyStep_sameSwaps x i s x).1, copyStep_entry,
    if_neg fun ⟨_, hc, _⟩ => otherBank_ne _ hc.symm]
  exact readBank_keeps x x _ _ i j s

theorem copyStep_unwritten {x u : TableId} {c : Bank} {i j : Nat} (h : ¬(u = x ∧ j = i)) (s : State) :
    entryAt u c j (copyStep x i s) = entryAt u c j s := by
  rw [copyStep_entry, if_neg fun ⟨hu, _, hj⟩ => h ⟨hu, hj⟩, readActive_other fun ⟨hu, _, hj⟩ => h ⟨hu, hj⟩]

/-- A double error at the index, in either bank, brings its notice (R178). -/
theorem copyStep_notice {x : TableId} {c : Bank} {i : Nat} {img : Image} {s : State}
    (h : entryAt x c i s = some (.good img .double)) : .latchNotice .tableDamaged ∈ (copyStep x i s).issued := by
  have hbank : c = (table x s).active ∨ c = otherBank (table x s).active := by
    cases c <;> cases (table x s).active <;> decide
  obtain rfl | rfl := hbank
  · obtain ⟨-, hnotice, -⟩ := readBank_damages h
    obtain ⟨-, notices, -, hissued⟩ := copyOver_storeOnly x i (copyImage (activeReads x i s)) (readActive x i s).2
    rw [copyStep, hissued]
    exact List.mem_append_left _ hnotice
  · refine copyOver_notice (img := img) ?_ _
    rw [(readActive_sameSwaps x i s x).1, readActive_other fun ⟨_, hc, _⟩ => otherBank_ne _ hc]
    exact h

/-- COPY-ACTIVE's work on the entries at some indexes, one after the other. -/
def copyRun (x : TableId) (is : List Nat) (s : State) : State := is.foldl (fun s i => copyStep x i s) s

theorem copyRun_cons (x : TableId) (i : Nat) (is : List Nat) (s : State) :
    copyRun x (i :: is) s = copyRun x is (copyStep x i s) := rfl

theorem foldl_copyEntry (x : TableId) (is l : List Nat) (s : State) :
    is.foldl (copyEntry x) (l, s) = (l ++ is.filter fun i => activeReads x i s = .damaged, copyRun x is s) := by
  induction is generalizing l s with
  | nil => simp [copyRun]
  | cons i is ih =>
    rw [List.foldl_cons, copyEntry_eq, ih, copyRun_cons, List.append_assoc]
    simp only [copyStep_activeReads, ← List.filter_append, List.singleton_append]

theorem copyRun_store (x : TableId) (is : List Nat) (s : State) :
    StoreOnly s (copyRun x is s) ∧ SameSwaps s (copyRun x is s) := by
  induction is generalizing s with
  | nil => exact ⟨StoreOnly.refl s, SameSwaps.refl s⟩
  | cons i is ih =>
    obtain ⟨hstore, hswaps⟩ := ih (copyStep x i s)
    exact ⟨(copyStep_storeOnly x i s).trans hstore, (copyStep_sameSwaps x i s).trans hswaps⟩

theorem copyRun_activeReads (x : TableId) (is : List Nat) (j : Nat) (s : State) :
    activeReads x j (copyRun x is s) = activeReads x j s := by
  induction is generalizing s with
  | nil => rfl
  | cons i is ih => rw [copyRun_cons, ih, copyStep_activeReads]

theorem copyRun_canonical {s : State} (h : TablesCanonical s) (x : TableId) (is : List Nat) :
    TablesCanonical (copyRun x is s) := by
  induction is generalizing s with
  | nil => exact h
  | cons i is ih => exact ih (copyStep_canonical h x i)

theorem copyRun_unwritten {x u : TableId} {c : Bank} {is : List Nat} {j : Nat} (h : ¬(u = x ∧ j ∈ is)) (s : State) :
    entryAt u c j (copyRun x is s) = entryAt u c j s := by
  induction is generalizing s with
  | nil => rfl
  | cons i is ih =>
    rw [copyRun_cons, ih fun ⟨hu, hj⟩ => h ⟨hu, List.mem_cons_of_mem _ hj⟩,
      copyStep_unwritten fun ⟨hu, hj⟩ => h ⟨hu, hj ▸ List.mem_cons_self ..⟩]

theorem copyRun_standby {x : TableId} {is : List Nat} {j : Nat} (h : j ∈ is) (s : State) :
    entryAt x (otherBank (table x s).active) j (copyRun x is s) = copied (activeReads x j s) := by
  induction is generalizing s with
  | nil => cases h
  | cons i is ih =>
    rw [copyRun_cons]
    by_cases hj : j ∈ is
    · rw [← (copyStep_sameSwaps x i s x).1, ih hj, copyStep_activeReads]
    · obtain rfl := (List.mem_cons.1 h).resolve_right hj
      rw [copyRun_unwritten fun ⟨_, hin⟩ => hj hin, copyStep_entry, if_pos ⟨rfl, rfl, rfl⟩]

theorem copyRun_swept {s : State} (h : TablesCanonical s) (x : TableId) (is : List Nat) :
    Swept x (table x s).active is s (copyRun x is s) := by
  induction is generalizing s with
  | nil => exact .done s
  | cons i is ih =>
    have hrest := ih (copyStep_canonical h x i)
    have hkept := copyOver_sweepKept (readBank_canonical h x (table x s).active i) x i (copyImage (activeReads x i s))
    rw [(copyStep_sameSwaps x i s x).1] at hrest
    rw [(readBank_sameSwaps x _ i s x).1] at hkept
    exact .read (.kept hkept hrest)

theorem copyRun_records {keep : DamagedRef → Bool} {x : TableId} {is : List Nat} {s : State}
    (h : ∀ i ∈ is, keep ⟨x, otherBank (table x s).active, i⟩ = false) :
    s.tbs.damagedList.filter keep <+: (copyRun x is s).tbs.damagedList.filter keep := by
  induction is generalizing s with
  | nil => exact List.prefix_rfl
  | cons i is ih =>
    obtain ⟨hi, his⟩ := List.forall_mem_cons.1 h
    rw [← (readActive_sameSwaps x i s x).1] at hi
    rw [← (copyStep_sameSwaps x i s x).1] at his
    exact (((readBank_listGrows x _ i s).1.filter keep).trans (copyOver_records hi _)).trans (ih his)

theorem copyRun_notice {x : TableId} {c : Bank} {is : List Nat} {j : Nat} {img : Image} {s : State} (hj : j ∈ is)
    (h : entryAt x c j s = some (.good img .double)) : .latchNotice .tableDamaged ∈ (copyRun x is s).issued := by
  induction is generalizing s with
  | nil => cases hj
  | cons i is ih =>
    rw [copyRun_cons]
    by_cases hji : j = i
    · obtain ⟨⟨-, notices, -, hissued⟩, -⟩ := copyRun_store x is (copyStep x i s)
      rw [hissued]
      exact List.mem_append_left _ (copyStep_notice (hji ▸ h))
    · exact ih ((List.mem_cons.1 hj).resolve_left hji) ((copyStep_unwritten fun ⟨_, heq⟩ => hji heq) s |>.trans h)

/-! ### WRITE-ENTRY and COPY-ACTIVE (R172, R173) -/

theorem exec_writeEntry (id index : Byte) (empty : Bool) (image : Image) {s : State} (h : s.mainPresent = true) :
    exec (.writeEntry id index empty image) s =
      .next (writeEntry id index empty image (take (.writeEntry id index empty image) s)) :=
  congrArg _ (powered_true s _ h)

theorem exec_copyActive (id : Byte) {s : State} (h : s.mainPresent = true) :
    exec (.copyActive id) s = .next (copyActive id (take (.copyActive id) s)) :=
  congrArg _ (powered_true s _ h)

theorem writeStatus_refused {x : TableId} {s : State} (h : writeAllowed x s.tsu.mode = false) :
    writeStatus x s = .refusedMode := by simp [writeStatus, h]

theorem writeStatus_pending {x : TableId} {s : State} (h : writeAllowed x s.tsu.mode = true)
    (hpending : (table x s).pending = true) : writeStatus x s = .swapPending := by simp [writeStatus, h, hpending]

theorem writeStatus_done {x : TableId} {s : State} (h : writeAllowed x s.tsu.mode = true)
    (hpending : (table x s).pending = false) : writeStatus x s = .done := by simp [writeStatus, h, hpending]

section Write

variable {id index : Byte} {x : TableId} {i : Nat} {empty : Bool} {image : Image}

theorem writeEntry_outside (h : addressed id index = none) (s : State) :
    writeEntry id index empty image s = answer .badArgument [] s := by rw [writeEntry, h]

theorem writeEntry_unfit (h : addressed id index = some (x, i)) (hfits : ¬(empty = true ∨ encodable x i image = true))
    (s : State) : writeEntry id index empty image s = answer .badArgument [] s := by
  rw [writeEntry, h]
  exact if_neg (by simpa using hfits)

theorem writeEntry_refused (h : addressed id index = some (x, i)) (hfits : empty = true ∨ encodable x i image = true)
    {s : State} {status : Status} (hstatus : writeStatus x s = status) (hnot : status ≠ .done) :
    writeEntry id index empty image s = answer status [] s := by
  subst hstatus
  rw [writeEntry, h]
  exact (if_pos (by simpa using hfits)).trans (if_neg hnot)

theorem writeEntry_done (h : addressed id index = some (x, i)) (hfits : empty = true ∨ encodable x i image = true)
    {s : State} (hstatus : writeStatus x s = .done) :
    writeEntry id index empty image s =
      answer .done [] (writeStandby x i (if empty then none else some image) s) := by
  rw [writeEntry, h]
  exact (if_pos (by simpa using hfits)).trans (if_pos hstatus)

end Write

theorem copyActive_outside {id : Byte} (h : tableOfId id.toNat = none) (s : State) :
    copyActive id s = answer .badArgument [] s := by rw [copyActive, h]

theorem copyActive_refused {id : Byte} {x : TableId} (h : tableOfId id.toNat = some x) {s : State} {status : Status}
    (hstatus : writeStatus x s = status) (hnot : status ≠ .done) : copyActive id s = answer status [] s := by
  subst hstatus
  rw [copyActive, h]
  exact if_neg hnot

/-- The answer of a COPY-ACTIVE that has read these DAMAGED entries (R173). -/
def copyAnswer (damaged : List Nat) : Instr :=
  match damaged.head? with
  | none => plainAnswer .done
  | some i => .ownerAnswer .damaged (wordsOf [BitVec.ofNat 32 i])

theorem copyActive_done {id : Byte} {x : TableId} (h : tableOfId id.toNat = some x) {s : State}
    (hstatus : writeStatus x s = .done) :
    copyActive id s = issue (copyAnswer ((tableIndexes x).filter fun i => activeReads x i s = .damaged))
      (copyRun x (tableIndexes x) s) := by
  rw [copyActive, h]
  dsimp only
  rw [if_pos hstatus, foldl_copyEntry, List.nil_append]
  cases (tableIndexes x).filter fun i => activeReads x i s = .damaged <;> rfl

/-- A write of a standby entry that is then answered, on behalf of a command. -/
theorem writeStandby_writes {s : State} (h : TablesCanonical s) (x : TableId) (i : Nat) (img : Option Image) (c : Instr) :
    let b := otherBank (table x s).active
    ∃ t, answer .done [] (writeStandby x i img (take c s)) = t ∧
      t = { s with tbs := t.tbs, issued := flightAfter c s [plainAnswer .done] } ∧
      entryAt x b i t = (img.map fun y => .good y .clean) ∧ OthersStand x b i s t ∧
      (∀ y, MarksStand y s t) ∧ ⟨x, b, i⟩ ∉ t.tbs.damagedList ∧ RecordLeaves ⟨x, b, i⟩ s t ∧
      t.tbs = { s.tbs with
        tables := t.tbs.tables, damagedList := t.tbs.damagedList, overflow := t.tbs.overflow } := by
  have hframe := writeStandby_frame x i img (take c s)
  obtain ⟨hleaves, hout⟩ := writeStandby_recordLeaves (s := take c s) h x i img
  refine ⟨_, rfl, ?frame, ?entry, fun u d j hne => ?others,
    marksStand_of_sameSwaps (writeStandby_sameSwaps x i img (take c s)), hout, hleaves, ?records⟩
  case frame =>
    rw [answer, issue, hframe]
    rfl
  case entry => exact (writeStandby_entry ..).trans (if_pos ⟨rfl, rfl, rfl⟩)
  case others => exact (writeStandby_entry ..).trans (if_neg hne)
  case records => exact congrArg State.tbs hframe

/-- COPY-ACTIVE reads the whole active bank and writes the whole standby bank, on behalf of a command. -/
theorem copyRun_copies {s : State} (h : TablesCanonical s) (x : TableId) (c : Instr) (reply : Instr) :
    let b := otherBank (table x s).active
    let is := tableIndexes x
    ∃ t, issue reply (copyRun x is (take c s)) = t ∧
      t = { s with tbs := t.tbs, issued := t.issued } ∧
      (∀ i ∈ is, entryAt x b i t = copied (activeReads x i s)) ∧
      (∀ i, activeReads x i t = activeReads x i s) ∧
      (∀ y d j, y ≠ x → entryAt y d j t = entryAt y d j s) ∧ (∀ y, MarksStand y s t) ∧
      (∀ i ∈ is, ⟨x, b, i⟩ ∉ t.tbs.damagedList) ∧
      (s.tbs.damagedList.filter fun d => !(d.table = x && d.bank = b && is.contains d.index)) <+: t.tbs.damagedList ∧
      SweepChecks x (table x s).active is s t ∧
      (∀ i ∈ is, ∀ d img, entryAt x d i s = some (.good img .double) → .latchNotice .tableDamaged ∈ t.issued) ∧
      Issues c s t [reply] := by
  dsimp only
  let u := take c s
  have hcanonical : TablesCanonical (copyRun x (tableIndexes x) u) := copyRun_canonical (s := u) h x _
  have hstandby (i : Nat) (hi : i ∈ tableIndexes x) : entryAt x (otherBank (table x s).active) i
      (copyRun x (tableIndexes x) u) = copied (activeReads x i s) := copyRun_standby (s := u) hi
  obtain ⟨hstore, hswaps⟩ := copyRun_store x (tableIndexes x) u
  have hout (i : Nat) (hi : i ∈ tableIndexes x) :
      ⟨x, otherBank (table x s).active, i⟩ ∉ (copyRun x (tableIndexes x) u).tbs.damagedList :=
    not_mem_damagedList hcanonical (hstandby i hi ▸ cleanOf_ne_damaged _)
  have hanswered : SweepKept x (table x s).active (copyRun x (tableIndexes x) u)
      (issue reply (copyRun x (tableIndexes x) u)) :=
    ⟨rfl, fun _ => rfl, List.prefix_append .., rfl, rfl, fun _ _ => id⟩
  refine ⟨_, rfl, ?frame, hstandby, fun i => copyRun_activeReads x _ i u,
    fun y d j hy => copyRun_unwritten (s := u) fun ⟨hyx, _⟩ => hy hyx, marksStand_of_sameSwaps (s := s) hswaps, hout,
    ?records, ((copyRun_swept (s := u) h x _).thenKept hanswered).checks (tableIndexes_sorted x),
    fun i hi d img hdouble => List.mem_append_left _ (copyRun_notice (s := u) hi hdouble), hstore.issuesOn.append _⟩
  case frame =>
    obtain ⟨hframe, -⟩ := hstore
    rw [issue, hframe]
    rfl
  case records =>
    let keep : DamagedRef → Bool := fun d =>
      !(d.table = x && d.bank = otherBank (table x s).active && (tableIndexes x).contains d.index)
    have hkept : (copyRun x (tableIndexes x) u).tbs.damagedList.filter keep =
        (copyRun x (tableIndexes x) u).tbs.damagedList := by
      refine List.filter_eq_self.2 fun d hd => ?_
      obtain ⟨y, c, j⟩ := d
      by_contra hdropped
      obtain ⟨⟨rfl, rfl⟩, hj⟩ : (y = x ∧ c = otherBank (table x s).active) ∧ j ∈ tableIndexes x := by
        simpa [keep] using hdropped
      exact hout j hj hd
    have hrecords := copyRun_records (keep := keep) (x := x) (is := tableIndexes x) (s := u) fun i hi => by
      simpa [keep] using ⟨rfl, hi⟩
    rwa [hkept] at hrecords

/-- Settles O56: a taken write changes one standby entry, and its record leaves the damaged-entry list; COPY-ACTIVE sweeps
the active bank, and what it writes over is not part of the sweep. -/
theorem writesReachTheStandbyBank : Obligations.WritesReachTheStandbyBank := by
  intro id index empty image s hmain
  dsimp only
  rw [exec_writeEntry id index empty image hmain, exec_copyActive id hmain]
  refine ⟨fun hout => ?_, fun hout => ?_, fun x i hx => ⟨fun hunfit => ?_, fun hfits hmode => ?_,
    fun hfits hmode hpending => ?_, fun hfits hmode hpending hcanonical => ?write⟩,
    fun x hx => ⟨fun hmode => ?_, fun hmode hpending => ?_, fun hmode hpending hcanonical => ?copy⟩⟩
  · rw [writeEntry_outside hout]; rfl
  · rw [copyActive_outside hout]; rfl
  · rw [writeEntry_unfit hx hunfit]; rfl
  · rw [writeEntry_refused hx hfits (writeStatus_refused (s := take _ s) hmode) (by decide)]; rfl
  · rw [writeEntry_refused hx hfits (writeStatus_pending (s := take _ s) hmode hpending) (by decide)]; rfl
  case write =>
    have hexec := writeEntry_done (image := image) hx hfits
      (writeStatus_done (s := take (.writeEntry id index empty image) s) hmode hpending)
    obtain ⟨t, ht, hwritten⟩ := writeStandby_writes hcanonical x i
      (if empty then none else some image) (.writeEntry id index empty image)
    exact ⟨t, (exec_writeEntry id index empty image hmain).trans (congrArg _ (hexec.trans ht)), by
      cases empty <;> exact hwritten⟩
  · rw [copyActive_refused hx (writeStatus_refused (s := take _ s) hmode) (by decide)]; rfl
  · rw [copyActive_refused hx (writeStatus_pending (s := take _ s) hmode hpending) (by decide)]; rfl
  case copy =>
    have hexec := copyActive_done hx (writeStatus_done (s := take (.copyActive id) s) hmode hpending)
    obtain ⟨t, ht, hframe, hstandby, hactive, hothers, hmarks, hout, hrecords, hchecks, hnotice, hissues⟩ :=
      copyRun_copies hcanonical x (.copyActive id) _
    refine ⟨t, (exec_copyActive id hmain).trans (congrArg _ (hexec.trans ht)), hframe, fun i hi => ?_, hactive, hothers,
      hmarks, hout, hrecords, hchecks, hnotice, hissues⟩
    rw [hstandby i hi]
    cases activeReads x i s <;> rfl

/-! ### SWAP and READ-ENTRY (R174, R180) -/

theorem exec_swap (id generation : Byte) {s : State} (h : s.mainPresent = true) :
    exec (.swap id generation) s = .next (swapRequest id generation (take (.swap id generation) s)) :=
  congrArg _ (powered_true s _ h)

theorem exec_readEntry (id : Byte) (role : Role) (index : Byte) {s : State} (h : s.mainPresent = true) :
    exec (.readEntry id role index) s = .next (readEntry id role index (take (.readEntry id role index) s)) :=
  congrArg _ (powered_true s _ h)

theorem tableStateWord_of_sameSwaps {s t : State} (h : SameSwaps s t) (x : TableId) :
    tableStateWord (table x t) = tableStateWord (table x s) := by
  obtain ⟨hactive, hpending, hgeneration, hhistory⟩ := h x
  rw [tableStateWord, tableStateWord, hactive, hpending, hgeneration, hhistory]

section Swap

variable {id generation : Byte} {x : TableId} {s : State}

theorem swapRequest_outside (h : tableOfId id.toNat = none) : swapRequest id generation s = answer .badArgument [] s := by
  rw [swapRequest, h]

theorem swapRequest_refused (h : tableOfId id.toNat = some x) (hmode : writeAllowed x s.tsu.mode = false) :
    swapRequest id generation s = answerTable x .refusedMode [] s := by
  rw [swapRequest, h]
  exact if_neg (by simp [hmode])

theorem swapRequest_repeated (h : tableOfId id.toNat = some x) (hmode : writeAllowed x s.tsu.mode = true)
    (hgeneration : generation ≠ (table x s).generation) : swapRequest id generation s = answerTable x .done [] s := by
  rw [swapRequest, h]
  exact (if_pos hmode).trans (if_neg hgeneration)

theorem swapRequest_pending (h : tableOfId id.toNat = some x) (hmode : writeAllowed x s.tsu.mode = true)
    (hgeneration : generation = (table x s).generation) (hpending : (table x s).pending = true) :
    swapRequest id generation s = answerTable x .swapPending [] s := by
  rw [swapRequest, h]
  exact (if_pos hmode).trans ((if_pos hgeneration).trans (if_pos hpending))

/-- The state in which SWAP has read the standby bank for its validation. -/
def standbyRead (x : TableId) (s : State) : State := (readAll x (otherBank (table x s).active) (tableIndexes x) s).2

/-- What SWAP does with the index that its validation has found to fail, if there is one (R174, R175). -/
def swapOutcome (x : TableId) (failing : Option Nat) (s : State) : State :=
  match failing with
  | none => answerTable x .done [] (markPending x s)
  | some i => answerTable x .invalid [BitVec.ofNat 32 i] s

theorem swapRequest_validates (h : tableOfId id.toNat = some x) (hmode : writeAllowed x s.tsu.mode = true)
    (hgeneration : generation = (table x s).generation) (hpending : (table x s).pending = false) :
    swapRequest id generation s = swapOutcome x (validate x s).1 (standbyRead x s) := by
  have hread : (validate x s).2 = standbyRead x s := rfl
  rw [swapRequest, h, ← hread]
  refine (if_pos hmode).trans ((if_pos hgeneration).trans ((if_neg (by simp [hpending])).trans ?_))
  obtain ⟨_ | i, u⟩ := validate x s <;> rfl

end Swap

/-- A validation's reads change the store alone, no mark of it and no result of a read. -/
theorem standbyRead_store (x : TableId) (s : State) :
    StoreOnly s (standbyRead x s) ∧ SameSwaps s (standbyRead x s) ∧ EntriesReadAlike s (standbyRead x s) ∧
    Swept x (otherBank (table x s).active) (tableIndexes x) s (standbyRead x s) := by
  obtain ⟨hstore, hswaps, halike⟩ := readAll_store x (otherBank (table x s).active) (tableIndexes x) s
  exact ⟨hstore, hswaps, halike, readAll_swept ..⟩

theorem markPending_table (x : TableId) (s : State) :
    table x (markPending x s) = { table x s with pending := true, generation := (table x s).generation + 1 } :=
  (setTable_table ..).trans (if_pos rfl)

theorem markPending_entry (x u : TableId) (c : Bank) (j : Nat) (s : State) :
    entryAt u c j (markPending x s) = entryAt u c j s := by
  rw [entryAt, markPending, setTable_table]
  split
  case isTrue h => subst h; cases c <;> rfl
  case isFalse => rfl

theorem markPending_sweepKept (x : TableId) (b : Bank) (s : State) : SweepKept x b s (markPending x s) where
  active := by rw [markPending_table]
  entries j := markPending_entry x x b j s
  issued := List.prefix_rfl
  lastCorrection := rfl
  corrections := rfl
  listed _ _ := id

/-- A request that ends with an answer, after the reads of a validation and a change of the table's marks alone. -/
theorem standbyRead_answered {x : TableId} {c : Instr} {s w : State} (reply : Instr)
    (hframe : w = { standbyRead x (take c s) with tbs := w.tbs }) (hstand : EntriesStand (standbyRead x (take c s)) w)
    (hkept : SweepKept x (otherBank (table x s).active) (standbyRead x (take c s)) w)
    (hhistory : (table x w).history = (table x (standbyRead x (take c s))).history) :
    let t := issue reply w
    t = { s with tbs := t.tbs, issued := t.issued } ∧ EntriesReadAlike s t ∧
    SweepChecks x (otherBank (table x s).active) (tableIndexes x) s t ∧ (table x t).active = (table x s).active ∧
    (table x t).history = (table x s).history ∧ Issues c s t [reply] := by
  obtain ⟨hstore, hswaps, halike, hswept⟩ := standbyRead_store x (take c s)
  obtain ⟨hactive, -, -, hhistory'⟩ := hswaps x
  have hanswered : SweepKept x (otherBank (table x s).active) w (issue reply w) :=
    ⟨rfl, fun _ => rfl, List.prefix_append .., rfl, rfl, fun _ _ => id⟩
  refine ⟨?frame, fun u b j => (congrArg resultOf (hstand u b j)).trans (halike u b j),
    (hswept.thenKept (hkept.trans hanswered)).checks (tableIndexes_sorted x), hkept.active.trans hactive,
    hhistory.trans hhistory', ?issues⟩
  case frame =>
    obtain ⟨hreads, -⟩ := hstore
    rw [issue, hframe, hreads]
    rfl
  case issues =>
    have hissued : w.issued = (standbyRead x (take c s)).issued := by rw [hframe]
    have hissues := hstore.issuesOn.append [reply]
    rwa [← hissued] at hissues

theorem failsCheck_regulator {reads : Nat → ReadResult} {img : Image} (hgood : reads 1 = .good img)
    (hrange : (regulatorEntry img).1 < 45000 ∨ 65000 < (regulatorEntry img).1) :
    IsFirst (FailsCheck .regulator reads) (tableIndexes .regulator) (some 1) := by
  have hindexes : tableIndexes .regulator = [1] := by decide
  have hinvalid : entryValid .regulator 1 img = false := by
    simp only [entryValid, within, Bool.and_eq_false_iff, decide_eq_false_iff_not]
    omega
  rw [hindexes]
  exact ⟨List.mem_cons_self .., .inr (.inr (.inl ⟨img, hgood, hinvalid⟩)), by simp⟩

/-- The answer of a READ-ENTRY that has found an entry to read so (R180). -/
def readAnswer (word : Word) (r : ReadResult) : Instr :=
  match r with
  | .good img => .ownerAnswer .done (wordsOf (word :: img.toList))
  | .empty => .ownerAnswer .absent (wordsOf [word])
  | .damaged => .ownerAnswer .damaged (wordsOf [word])

theorem readEntry_found {id index : Byte} {x : TableId} {i : Nat} (h : addressed id index = some (x, i)) (role : Role)
    (s : State) :
    let b := bankOfRole (table x s) role
    readEntry id role index s =
      issue (readAnswer (tableStateWord (table x s)) (resultOf (entryAt x b i s))) (readBank x b i s).2 := by
  dsimp only
  have hword := tableStateWord_of_sameSwaps (readBank_sameSwaps x (bankOfRole (table x s) role) i s) x
  rw [readEntry, h, ← readBank_result, ← hword]
  dsimp only
  split <;> rename_i hread <;> rw [hread] <;> rfl

theorem readEntry_outside {id index : Byte} (h : addressed id index = none) (role : Role) (s : State) :
    readEntry id role index s = refuseRead id s := by rw [readEntry, h]

theorem addressed_outside {id index : Byte} (h : tableOfId id.toNat = none) : addressed id index = none := by
  rw [addressed, h]

theorem refuseRead_outside {id : Byte} (h : tableOfId id.toNat = none) (s : State) :
    refuseRead id s = answer .badArgument [] s := by rw [refuseRead, h]

theorem refuseRead_table {id : Byte} {x : TableId} (h : tableOfId id.toNat = some x) (s : State) :
    refuseRead id s = answerTable x .badArgument [] s := by rw [refuseRead, h]

/-- Settles O57: the validation of a SWAP is a sweep of the standby bank that answers the first entry to fail; a READ-ENTRY
is one read of the bank of its role. -/
theorem swapsAndReads : Obligations.SwapsAndReads := by
  intro id index generation role s hmain
  dsimp only
  rw [exec_swap id generation hmain, exec_readEntry id role index hmain]
  refine ⟨fun hout => ⟨?_, ?_⟩, fun x hx => ⟨fun hmode => ?_, fun hmode hgeneration => ?_,
    fun hmode hgeneration hpending => ?_, fun hmode hgeneration hpending _ => ?swap, fun hout => ?_, fun i hi => ?read⟩⟩
  · rw [swapRequest_outside hout]; rfl
  · rw [readEntry_outside (addressed_outside hout), refuseRead_outside hout]; rfl
  · rw [swapRequest_refused (s := take _ s) hx hmode]; rfl
  · rw [swapRequest_repeated (s := take _ s) hx hmode hgeneration]; rfl
  · rw [swapRequest_pending (s := take _ s) hx hmode hgeneration hpending]; rfl
  case swap =>
    let u := take (.swap id generation) s
    have hfirst : IsFirst (FailsCheck x fun i => standbyReads x i s) (tableIndexes x) (validate x u).1 :=
      validate_isFirst x u
    have hexec := (exec_swap id generation hmain).trans
      (congrArg _ (swapRequest_validates (s := u) hx hmode hgeneration hpending))
    obtain ⟨-, hswaps, -⟩ := standbyRead_store x u
    obtain ⟨-, hunmarked, hsame, -⟩ := hswaps x
    cases hfailing : (validate x u).1 <;> rw [hfailing] at hfirst hexec
    case none =>
      obtain ⟨hframe, halike, hchecks, hactive, hhistory, hissues⟩ := standbyRead_answered (s := s)
        (.ownerAnswer .done (wordsOf [tableStateWord (table x (markPending x (standbyRead x u)))])) rfl
        (fun y b j => markPending_entry x y b j _) (markPending_sweepKept x _ _) (by rw [markPending_table])
      have hmarked := markPending_table x (standbyRead x u)
      rw [hsame] at hmarked
      refine ⟨_, hexec, hframe, halike, hchecks, hactive, hhistory,
        fun _ => ⟨congrArg TableStore.pending hmarked, congrArg TableStore.generation hmarked, hissues⟩,
        fun i hi hfails _ => absurd hfails (hfirst i hi), ?_⟩
      rintro img rfl hgood hrange
      cases hfirst.unique (failsCheck_regulator hgood hrange)
    case some k =>
      obtain ⟨hframe, halike, hchecks, hactive, hhistory, hissues⟩ := standbyRead_answered (s := s)
        (.ownerAnswer .invalid (wordsOf [tableStateWord (table x (standbyRead x u)), BitVec.ofNat 32 k])) rfl
        (fun _ _ _ => rfl) (SweepKept.refl x _ (standbyRead x u)) rfl
      have hword : tableStateWord (table x (standbyRead x u)) = tableStateWord (table x s) :=
        tableStateWord_of_sameSwaps hswaps x
      rw [← hword]
      refine ⟨_, hexec, hframe, halike, hchecks, hactive, hhistory, fun hnone => ?_, fun i hi hfails hleast => ?_, ?_⟩
      · obtain ⟨hk, hfails, -⟩ := hfirst
        exact absurd hfails (hnone k hk)
      · obtain rfl : i = k := Option.some.inj (IsFirst.unique ⟨hi, hfails, hleast⟩ hfirst)
        exact ⟨hunmarked.trans hpending, hsame, hissues⟩
      · rintro img rfl hgood hrange
        cases hfirst.unique (failsCheck_regulator hgood hrange)
        exact hissues
  · rw [readEntry_outside hout, refuseRead_table hx]; rfl
  case read =>
    let u := take (.readEntry id role index) s
    have hbank : (if role = .active then (table x s).active else otherBank (table x s).active) =
        bankOfRole (table x u) role := by cases role <;> rfl
    rw [hbank]
    obtain ⟨hchecks, hissued⟩ := readBank_checks x (bankOfRole (table x u) role) i u
    refine ⟨_, (exec_readEntry id role index hmain).trans (congrArg _ (readEntry_found hi role u)), ?_, hchecks,
      fun _ y b j => readBank_keeps x y _ b i j u⟩
    obtain ⟨hframe, -⟩ := readBank_storeOnly x (bankOfRole (table x u) role) i u
    rw [hframe, hissued]
    simp only [issue, flightAfter, List.append_assoc]
    rfl

end Sys2Proof.Machine
end
